-- ==== Sys2Proof/Word.lean ====
section
/-! DEFINITION. The word types of the SJ4120 (Introduction, section 0.4). -/

namespace Sys2Proof

/-- A byte: the data bits of a character, an operand byte, a payload byte. -/
abbrev Byte := BitVec 8

/-- A word of the register window, 16 bits (section 0.4). -/
abbrev Word := BitVec 16

/-- A value of the 32-bit tick counter (R163, R166). -/
abbrev Stamp := BitVec 32

end Sys2Proof
end

