-- ==== Sys2Proof/Syntax.lean ====
section
/-! DEFINITION. The commands and events of spec/opcode_table.json, one constructor per row.

A row that is a register access carries what the host puts on the bus beside the offset: the operand
byte of a command that uses one, or the word written. A row that is a report of the Line Interface
carries what the report holds. -/

namespace Sys2Proof

/-- One row of spec/opcode_table.json with its operands. -/
inductive Instr where
  /-- LINE_START, CMD 10h (R58). -/
  | lineStart
  /-- LINE_STOP, CMD 11h (R59). -/
  | lineStop
  /-- LINE_HALT, CMD 12h (R61). -/
  | lineHalt
  /-- LINE_BREAK, CMD 13h (R62). -/
  | lineBreak
  /-- SCHED_RUN, CMD 20h (R105). -/
  | schedRun
  /-- SCHED_HALT, CMD 21h (R106). -/
  | schedHalt
  /-- SCHED_SWAP, CMD 22h (R94). -/
  | schedSwap
  /-- STN_ENABLE, CMD 30h, with its operand byte (R79, R181). -/
  | stnEnable (operand : Byte)
  /-- STN_DISABLE, CMD 31h, with its operand byte (R80, R181). -/
  | stnDisable (operand : Byte)
  /-- CHG_POP, CMD 32h (R87). -/
  | chgPop
  /-- RQ_CLEAR, CMD 40h (R123). -/
  | rqClear
  /-- RQ_SUBMIT, CMD 41h (R124, R125). -/
  | rqSubmit
  /-- RQ_CANCEL, CMD 42h (R132 to R134). -/
  | rqCancel
  /-- RQ_FLUSH with operand 1, CMD 0143h (R136). -/
  | rqFlushUrgent
  /-- RQ_FLUSH with operand 2, CMD 0243h (R136). -/
  | rqFlushNormal
  /-- RQ_FLUSH with operand 3, CMD 0343h (R137). -/
  | rqFlushAll
  /-- CP_OPEN, CMD 50h (R139). -/
  | cpOpen
  /-- CP_RETIRE, CMD 51h (R140). -/
  | cpRetire
  /-- SNAP_PIN, CMD 60h, with its operand byte (R153, R181). -/
  | snapPin (operand : Byte)
  /-- SNAP_UNPIN, CMD 61h, with its operand byte (R153, R181). -/
  | snapUnpin (operand : Byte)
  /-- SNAP_OPEN, CMD 62h, with its operand byte (R154, R181). -/
  | snapOpen (operand : Byte)
  /-- TAB_READ, CMD 70h, while TAB_SEL names a station entry (R84, R185). -/
  | tabReadStation
  /-- TAB_READ, CMD 70h, while TAB_SEL names a schedule entry (R93, R185). -/
  | tabReadSchedule
  /-- TAB_READ, CMD 70h, while TAB_SEL names the line parameters (R63, R185). -/
  | tabReadLineParameters
  /-- TAB_READ, CMD 70h, while TAB_SEL names a snapshot record (R155, R185). -/
  | tabReadSnapshot
  /-- TAB_READ, CMD 70h, while TAB_SEL names a route entry (R170, R185). -/
  | tabReadRoute
  /-- TAB_READ, CMD 70h, while TAB_SEL names the change queue head (R187, R185). -/
  | tabReadChangeQueueHead
  /-- TAB_READ, CMD 70h, while TAB_SEL names no entry (R185). -/
  | tabReadNoEntry
  /-- TAB_WRITE, CMD 71h, while TAB_SEL names a station entry (R81 to R83, R186). -/
  | tabWriteStation
  /-- TAB_WRITE, CMD 71h, while TAB_SEL names a schedule entry (R92, R186). -/
  | tabWriteSchedule
  /-- TAB_WRITE, CMD 71h, while TAB_SEL names the line parameters (R63, R186). -/
  | tabWriteLineParameters
  /-- TAB_WRITE, CMD 71h, while TAB_SEL names a snapshot record (R155, R186). -/
  | tabWriteSnapshot
  /-- TAB_WRITE, CMD 71h, while TAB_SEL names a route entry (R170, R186). -/
  | tabWriteRoute
  /-- TAB_WRITE, CMD 71h, while TAB_SEL names the change queue head (R187, R186). -/
  | tabWriteChangeQueueHead
  /-- TAB_WRITE, CMD 71h, while TAB_SEL names no entry (R186). -/
  | tabWriteNoEntry
  /-- TB_CLEAR, CMD 80h (R165). -/
  | tbClear
  /-- SOFT_RESET, CMD F0h (R189). -/
  | softReset
  /-- A write of CMD with a code outside the command table (R179). -/
  | unknownCommand (code operand : Byte)
  /-- A write of DPORT (R157). -/
  | dportWrite (value : Word)
  /-- A read of DPORT (R158). -/
  | dportRead
  /-- A read of TB_LO (R164). -/
  | tbLoRead
  /-- A write of EV_LATCH (R168). -/
  | evLatchWrite (value : Word)
  /-- A write of EV_ENABLE (R169). -/
  | evEnableWrite (value : Word)
  /-- A write of RQ_SEL (R182). -/
  | rqSelWrite (value : Word)
  /-- A write of RQ_TAG (R182). -/
  | rqTagWrite (value : Word)
  /-- A write of RQ_OVR (R182). -/
  | rqOvrWrite (value : Word)
  /-- A write of TAB_SEL (R183). -/
  | tabSelWrite (value : Word)
  /-- A write of TAB_W0 to TAB_W3 (R184). -/
  | tabWWrite (n : Fin 4) (value : Word)
  /-- A write of a read-only register or of offset 31 (R177). -/
  | registerWriteIgnored (offset : Fin 32) (value : Word)
  /-- RESET asserted, or power-on (R190). -/
  | hardReset (powerOn : Bool)
  /-- RESET released, with a strobe asserted at that moment or not (R16, R173, R190, R194). -/
  | resetRelease (strobeHeld : Bool)
  /-- The reference clock stops (R192). -/
  | clockStop
  /-- The reference clock runs again (R193). -/
  | clockResume
  /-- A tick of the time base (R163). -/
  | tick
  /-- The holdoff of the deferred entry at this place reaches 0 (R52). -/
  | holdoffExpiry (place : Fin 4)
  /-- The period timer reaches 0 (R103). -/
  | periodExpiry
  /-- The next tick starts the cycle of a WAITING unit whose timer is stopped (R104). -/
  | nextTickCycleStart
  /-- The quiet monitor becomes QUIET (R14). -/
  | quietReport
  /-- The quiet monitor becomes ACTIVE (R14). -/
  | activeReport
  /-- The reply window runs out (R43). -/
  | replyWindowExpiry
  /-- The gap timer runs out (R44). -/
  | gapExpiry
  /-- The receiver confirms a start bit (R3); `noise`: its three samples are not all alike. -/
  | startReport (noise : Bool)
  /-- The receiver hands over a character (R5). -/
  | characterReport (data : Byte) (mark noise framing : Bool)
  /-- The receiver reports a break (R7). -/
  | breakReport
  /-- The first start bit of a frame begins (R8). -/
  | firstStartReport
  /-- The echo of a character sent, with the request for the next one (R9, R10). -/
  | echoReport (data : Byte) (mark noise framing : Bool)
  /-- The driver is released after a frame (R11). -/
  | releasedReport
  /-- The low period of a break ends (R13, R34). -/
  | breakLowEnd
  /-- The driver is released after a break (R13). -/
  | breakDoneReport
  /-- HELD_LOW ends: a position is decided high (R6). -/
  | heldLowEnd
  /-- RQ_FLUSH with an operand other than 1, 2 and 3 (R181). -/
  | rqFlushBadOperand (operand : Byte)
deriving DecidableEq, Repr

end Sys2Proof
end

