-- ==== Sys2Proof/Config.lean ====
section
/-! DEFINITION. What is fixed for the part, and the free values: what the spec leaves open. -/

namespace Sys2Proof.Config

/-- Where the spec lets either of two events that fall together be taken first and one step of the
model meets both, this free value says whether the one the calling rule names goes first.
It has no body: nothing can be proved of it. The argument is `State.choice` (log 8). -/
opaque firstTaken : Nat → Bool

/-- What a byte of the frame store reads as before anything is stored in it.
R161: "The contents of the blocks after power-on are not defined." DESIGN CHOICE (log 5). -/
def blankByte : Byte := 0

/-- The number of frame-store blocks (section 0.6). -/
def blockCount : Nat := 128

/-- The bytes of one frame-store block (section 0.6). -/
def blockBytes : Nat := 32

/-- Samples in one bit time (R2). -/
def samplesPerBit : Nat := 16

/-- Samples in one character time (R2). -/
def samplesPerChar : Nat := 176

/-- Reference clock periods in one tick (R163). -/
def periodsPerTick : Nat := 1600

/-- The least low time of a break cut short that still sets the toggles to 0: 22 bit times (R34). -/
def breakCertainSamples : Nat := 352

/-- Passages that forming one offer may need: one more than the five that one moment can hold, since
a cycle started there has dispatched nothing and left no start pending when it ends (R98 to R101). -/
def cyclePasses : Nat := 6

/-- PART_ID: family code 412h, revision 1 (R178). -/
def partId : Word := 0x4121#16

end Sys2Proof.Config
end

