-- ==== Sys2Proof/Machine/State.lean ====
section
/-! DEFINITION. The state of the SJ4120: every piece of state the spec gives its eleven blocks, as
plain data, with the values after a hard reset. -/

namespace Sys2Proof.Machine

/-- What stops the part. No rule of the spec stops it: every command is taken in every state
(R179), so there is nothing to name here. -/
inductive Fault where
deriving DecidableEq, Repr

/-- What the model turns away. -/
inductive Refusal where
  /-- A command that has no meaning yet. No arm of `exec` answers it: every row has a meaning. Safe. -/
  | notModelled (mnemonic : String)
deriving DecidableEq, Repr

/-! ## Names -/

/-- The eight engine states (section 3.1). -/
inductive EngineState where
  | stopped | idle | holding | turnaround | sending | awaiting | receiving | breaking
deriving DecidableEq, Repr

/-- The cycle states (section 5.2.1). -/
inductive CycleState where
  | halted | waiting | walking | probePhase
deriving DecidableEq, Repr

/-- The seven station states (section 4.2). -/
inductive StationState where
  | unconfigured | disabled | probing | online | degraded | offline | mismatched
deriving DecidableEq, Repr

/-- The command kinds (section 2.4); the request kinds are these but for POLL (section 10.7.1). -/
inductive CommandKind where
  | poll | read | write | probe | bcast | timesync
deriving DecidableEq, Repr

/-- The reply kinds (section 2.4). -/
inductive ReplyKind where
  | data | ack | nak | busy | ident
deriving DecidableEq, Repr

/-- The causes of an unusable reply (section 2.5.1). -/
inductive Cause where
  | check | framing | noise | gap | truncated | length | kind | stray
deriving DecidableEq, Repr

/-- The outcome codes of a completion record (section 7.3.3). -/
inductive ReqOutcome where
  | ok | sent | nak | sequence | overlength | busyExhausted | noReply | corrupt | wrongStation
  | collision | cancelled | aborted | stationDisabled | stationOffline | stationMismatch
deriving DecidableEq, Repr

/-- The ten result codes (R180). -/
inductive ResultCode where
  | done | refusedState | full | noBuffer | badOperand | duplicate | notFound | empty | entryBusy
  | already
deriving DecidableEq, Repr

/-- The twelve events, E0 to E11 (section 9.2). -/
inductive Event where
  | completionPosted | completionsPending | stationNotice | stationOffline | cycleEnd
  | cycleOverrun | lineContention | breakSeen | bufferWait | lineStopped | commandError
  | snapshotUpdated
deriving DecidableEq, Repr

/-! ## Frame Store (Chapter 8) -/

/-- The number of a frame-store block, 0 to 127. -/
abbrev Block := Fin 128

/-- An ordered run of blocks. A payload or reply chain holds 1 to 3; the empty list is a chain that
is absent. -/
abbrev Chain := List Block

/-- The bytes of the frame store, keyed by block * 32 + offset, as a list of (address, byte). -/
abbrev Memory := List Host.Cell

/-- The addresses of the cells rise strictly. -/
def Memory.rising : Memory → Bool
  | [] => true
  | [_] => true
  | a :: b :: m => decide (a.1 < b.1) && Memory.rising (b :: m)

/-- The canonical form: addresses rising and inside the store, no cell that reads as blank. -/
def Memory.wf (m : Memory) : Bool :=
  m.rising && m.all fun c =>
    decide (c.1 < Config.blockCount * Config.blockBytes) && decide (c.2 ≠ Config.blankByte)

/-- The kinds of reply a snapshot can hold (section 8.3). -/
inductive SnapKind where
  | data | ident
deriving DecidableEq, Repr

/-- A reply installed in a snapshot record, as current or as next (section 8.3). -/
structure Installed where
  chain : Chain
  length : BitVec 7
  kind : SnapKind
  stamp : Stamp
deriving DecidableEq, Repr

/-- A station's snapshot record (section 8.3). -/
structure Snapshot where
  current : Option Installed
  next : Option Installed
  generation : Word
  pinned : Bool
deriving DecidableEq, Repr

/-- The data-port cursor (section 8.4). In STAGING the position is the staged length, which the
Request Unit holds; NONE has neither position nor remaining. -/
inductive Cursor where
  | staging
  | completion (position remaining : BitVec 7)
  | snapshot (station : Fin 32) (position remaining : BitVec 7)
  | none
deriving DecidableEq, Repr

structure FrameStore where
  mem : Memory
  free : Chain
  snapshots : Vector Snapshot 32
  cursor : Cursor
deriving DecidableEq, Repr

/-! ## Line Interface (Chapter 1) -/

/-- A character to be sent: data bits and mark bit (R1). -/
structure TxChar where
  data : Byte
  mark : Bool
deriving DecidableEq, Repr

/-- A character report or an echo report (R5, R10). -/
structure LineChar where
  data : Byte
  mark : Bool
  noise : Bool
  framing : Bool
deriving DecidableEq, Repr

/-- What the transmitter is doing (section 1.4), with samples counted since it began. -/
inductive Tx where
  /-- The driver is released. -/
  | released
  /-- Driver enabled, output high, samples of the turnaround still to run (R8). -/
  | turnaround (left : Nat)
  /-- A character in progress at this sample; `echoed`: its echo was handed over, and carried a
  framing mark or not (R9). -/
  | sending (c : TxChar) (sample : Nat) (echoed : Option Bool)
  /-- The release bit (R11, R12). -/
  | releaseBit (sample : Nat)
  /-- The low period of a break (R13). -/
  | breakLow (sample : Nat)
  /-- The high bit time after a break (R13). -/
  | breakHigh (sample : Nat)
deriving DecidableEq, Repr

/-- Samples being decided: those of the current position, the positions decided so far (oldest
first) and whether any position's samples disagreed (R4). -/
structure Shift where
  votes : List Bool
  bits : List Bool
  noise : Bool
deriving DecidableEq, Repr

/-- The four receiver states (section 1.3). `sample` numbers the latest sample taken, counted from
the start edge or from the moment of the alignment. -/
inductive Rx where
  /-- HUNTING, with the candidate start edge being examined, if any (R3). -/
  | hunting (candidate : Option (Nat × Shift))
  /-- ASSEMBLING, with the foreign marking of R15 (R4). -/
  | assembling (sample : Nat) (shift : Shift) (foreign : Bool)
  /-- HELD_LOW, with the break count armed or not (R6). -/
  | heldLow (sample : Nat) (votes : List Bool) (armed : Bool)
  /-- ECHOING, on the transmitter's own count (R10). -/
  | echoing (shift : Shift)
deriving DecidableEq, Repr

/-- The two states of the quiet monitor (section 1.5). -/
inductive Monitor where
  | quiet | active
deriving DecidableEq, Repr

/-- The receiver's own divider while it finishes a character at an old divisor (R2). -/
structure OldRate where
  divisor : Nat
  left : Nat
deriving DecidableEq, Repr

structure LineInterface where
  tx : Tx
  /-- The character supplied and not yet begun (R9, R12). -/
  supplied : Option TxChar
  /-- A break order that waits for the work in progress (R13). -/
  breakWaiting : Bool
  rx : Rx
  /-- The level at the latest sample, for the edge of R3. -/
  lastSample : Bool
  /-- Reference clock periods before the one that takes the next sample (R2). -/
  sampleLeft : Nat
  oldRate : Option OldRate
  monitor : Monitor
  quietTimer : Nat
deriving DecidableEq, Repr

/-! ## Line Engine (Chapter 3) -/

/-- Where a transaction comes from (R37). -/
inductive Origin where
  /-- A request, with its tag. -/
  | request (tag : Word)
  | pollSlot
  | readSlot
  | probe
deriving DecidableEq, Repr

/-- The last failure of a round (R37). -/
inductive Failure where
  | noReply
  | corrupt (cause : Cause)
  | wrongStation
deriving DecidableEq, Repr

/-- The current transaction or a deferred one (R37). -/
structure Transaction where
  origin : Origin
  target : Option (Fin 32)
  kind : CommandKind
  /-- The request's payload chain and its staged length. -/
  payload : Chain
  length : BitVec 7
  /-- The one payload byte of a cycle READ. -/
  selector : Byte
  /-- The request's reply-blocks override; none: station default, or no override at all. -/
  blocksOverride : Option (BitVec 2)
  reservation : Chain
  retryLimit : BitVec 3
  attempts : BitVec 4
  busyCount : BitVec 4
  lastFailure : Option Failure
  cancel : Bool
deriving DecidableEq, Repr

/-- An entry of the deferred list: the transaction and its holdoff. `id` names the entry among the
at most four, so that the expiry order can refer to it (R52). -/
structure Deferred where
  id : Fin 4
  txn : Transaction
  holdoff : BitVec 8
deriving DecidableEq, Repr

/-- What the engine keeps of the attempt under way: the timers and marks of R43 and R44, the frame
it sends (R18 to R24) and the frame it receives (R27, R29). -/
structure Attempt where
  stray : Bool
  /-- A start report has come and its character has not (R40, R43, R44). -/
  pending : Bool
  /-- Samples of the reply window still to run; none: stopped. -/
  window : Option Nat
  /-- The window ran out while a character was pending (R43). -/
  windowOut : Bool
  /-- Samples of the gap still to run; none: stopped. -/
  gap : Option Nat
  /-- The ADDRESS sent, which is also the target address of R22. -/
  address : Byte
  control : Byte
  /-- The toggle sent, for R32. -/
  toggle : Bool
  /-- The characters of the command frame supplied so far. -/
  sent : Nat
  sendCheck : Word
  /-- The tick counter latched for a TIMESYNC (R24). -/
  latched : Stamp
  /-- The characters of the reply frame taken so far. -/
  taken : Nat
  replyAddress : Byte
  replyControl : Byte
  replyLength : Byte
  replyCheck : Word
  checkLow : Byte
  /-- The first mark seen in the reply frame: framing or noise (R27). -/
  markCause : Option Cause
deriving DecidableEq, Repr

/-- The line parameters (section 3.9). -/
structure LineParams where
  divisor : BitVec 12
  turnaround : BitVec 8
  window : BitVec 8
  gap : BitVec 4
  quiet : BitVec 4
  breakLength : BitVec 4
  holdoff : BitVec 8
  share : BitVec 4
  threshold : BitVec 6
  period : BitVec 16
deriving DecidableEq, Repr

structure LineEngine where
  state : EngineState
  current : Option Transaction
  attempt : Attempt
  deferred : List Deferred
  /-- The expired entries, by `id`, in the order in which they expired (R52). -/
  expired : List (Fin 4)
  stopMark : Bool
  /-- The break under way was ordered from STOPPED (R62). -/
  breakFromStopped : Bool
  params : LineParams
deriving DecidableEq, Repr

/-! ## Station Table (Chapter 4) -/

structure Station where
  address : Byte
  expectedClass : Byte
  retryLimit : BitVec 3
  busyLimit : BitVec 4
  failLimit : BitVec 4
  replyBlocks : BitVec 2
  probeInterval : BitVec 8
  watch : Bool
  state : StationState
  failCount : BitVec 4
  countdown : BitVec 8
  toggle : Bool
  lastReply : Option ReplyKind
  lastClass : Option Byte
deriving DecidableEq, Repr

/-- A notice of the change queue (section 4.5). -/
structure Notice where
  station : Fin 32
  firstOld : StationState
  latestNew : StationState
  count : BitVec 8
  stamp : Stamp
deriving DecidableEq, Repr

structure StationTable where
  entries : Vector Station 32
  changes : List Notice
deriving DecidableEq, Repr

/-! ## Cycle Unit (Chapter 5) -/

/-- The slot kinds (section 5.1.1). -/
inductive SlotKind where
  | poll | read
deriving DecidableEq, Repr

structure Slot where
  station : Fin 32
  kind : SlotKind
  selector : Byte
  enabled : Bool
deriving DecidableEq, Repr

structure Bank where
  slots : Vector Slot 64
  length : BitVec 7
deriving DecidableEq, Repr

/-- The two banks' names. -/
inductive BankName where
  | a | b
deriving DecidableEq, Repr

structure CycleUnit where
  bankA : Bank
  bankB : Bank
  active : BankName
  swapPending : Bool
  state : CycleState
  pointer : Nat
  probeList : List (Fin 32)
  probePos : Nat
  /-- Ticks remaining; none: stopped (R102). -/
  timer : Option (BitVec 16)
  startPending : Bool
  dispatched : Bool
deriving DecidableEq, Repr

/-! ## Request Unit and Completion Queue (Chapter 7) -/

/-- The staging area (section 7.1). Kind and overrides are codes, held as written (R122). -/
structure Staging where
  kind : BitVec 4
  station : BitVec 5
  urgent : Bool
  tag : Word
  retry : BitVec 4
  blocks : BitVec 3
  payload : List Byte
deriving DecidableEq, Repr

/-- A queued request (R126). -/
structure Request where
  kind : CommandKind
  station : Option (Fin 32)
  tag : Word
  /-- none: station default. -/
  retry : Option (BitVec 3)
  /-- none: station default, or absent for BCAST and TIMESYNC. -/
  blocks : Option (BitVec 2)
  payload : Chain
  length : BitVec 7
deriving DecidableEq, Repr

structure RequestUnit where
  staging : Staging
  urgent : List Request
  normal : List Request
deriving DecidableEq, Repr

/-- A completion record (R130, R131). -/
structure Record where
  tag : Word
  kind : CommandKind
  station : Option (Fin 32)
  outcome : ReqOutcome
  attempts : BitVec 4
  busyCount : BitVec 4
  cause : Option Cause
  replyKind : Option ReplyKind
  replyLength : Option (BitVec 7)
  chain : Chain
  nakReason : Option Byte
  cancel : Bool
  stamp : Stamp
deriving DecidableEq, Repr

structure CompletionQueue where
  ring : List Record
  reserved : Nat
deriving DecidableEq, Repr

/-! ## Time Base and Event Unit (Chapter 9) -/

structure TimeBase where
  prescaler : Nat
  counter : Stamp
  hold : Word
deriving DecidableEq, Repr

/-- The two interrupt outputs. -/
inductive Output where
  | a | b
deriving DecidableEq, Repr

structure Route where
  level : BitVec 3
  output : Output
deriving DecidableEq, Repr

structure EventUnit where
  /-- The latches of the occurrences, bit n for En; the bits of the conditions are never set. -/
  latches : BitVec 12
  enables : BitVec 12
  routes : Vector Route 12
deriving DecidableEq, Repr

/-! ## Bus Interface (Chapter 10) and pins -/

structure BusInterface where
  result : ResultCode
  answered : Byte
  tabIndex : Byte
  tabSelect : BitVec 3
  tabPage : Bool
  image : Vector Word 8
deriving DecidableEq, Repr

/-- The input pins and what stands on the data bus. -/
structure Pins where
  /-- RESET is asserted (R190). -/
  resetPin : Bool
  /-- The reference clock runs (R192). -/
  clock : Bool
  /-- A strobe was asserted when RESET was released, and its access has not ended (R194). -/
  strobeHeld : Bool
  /-- What the latest read access drove onto D0 to D15; none: it drove nothing, or there was none. -/
  dataBus : Option Word
deriving DecidableEq, Repr

/-- The levels that the other drivers of the line put on the receive input: this level (none: no
other driver is active) for `periods + 1` periods of the reference clock. -/
structure LineRun where
  periods : Nat
  level : Option Bool
deriving DecidableEq, Repr

/-! ## The state -/

/-- The state of the part, block by block, and the model's own three fields at the end. -/
structure State where
  li : LineInterface
  le : LineEngine
  st : StationTable
  cu : CycleUnit
  /-- The poll run counter of the Line Arbiter (R112). -/
  pollRun : BitVec 4
  ru : RequestUnit
  cq : CompletionQueue
  fs : FrameStore
  tb : TimeBase
  eu : EventUnit
  bi : BusInterface
  pins : Pins
  /-- The model's own: what the other drivers of the line will do (log 7). -/
  lineIn : List LineRun
  /-- The model's own: how many free choices of order have been made (log 8). -/
  choice : Nat
  /-- The commands waiting, first in, first out. -/
  pending : List Instr
deriving DecidableEq, Repr

/-! ## Values after a hard reset -/

/-- No position decided yet. -/
def Shift.fresh : Shift := { votes := [], bits := [], noise := false }

/-- R16, as at the moment RESET is released: the first sample falls one sample period later. -/
def LineInterface.reset : LineInterface :=
  { tx := .released, supplied := none, breakWaiting := false, rx := .heldLow 0 [] false,
    lastSample := true, sampleLeft := 103, oldRate := none, monitor := .active, quietTimer := 0 }

/-- No attempt timer runs and no frame state is kept (R35, R64). -/
def Attempt.blank : Attempt :=
  { stray := false, pending := false, window := none, windowOut := false, gap := none,
    address := 0, control := 0, toggle := false, sent := 0, sendCheck := 0xFFFF#16, latched := 0,
    taken := 0, replyAddress := 0, replyControl := 0, replyLength := 0, replyCheck := 0xFFFF#16,
    checkLow := 0, markCause := none }

/-- The hard reset values of section 3.9. -/
def LineParams.reset : LineParams :=
  { divisor := 103, turnaround := 2, window := 20, gap := 3, quiet := 4, breakLength := 2,
    holdoff := 50, share := 4, threshold := 1, period := 1000 }

/-- R64. -/
def LineEngine.reset : LineEngine :=
  { state := .stopped, current := none, attempt := .blank, deferred := [], expired := [],
    stopMark := false, breakFromStopped := true, params := .reset }

/-- R89; also what R83 leaves of an entry. -/
def Station.reset : Station :=
  { address := 0, expectedClass := 0, retryLimit := 0, busyLimit := 0, failLimit := 0,
    replyBlocks := 0, probeInterval := 0, watch := false, state := .unconfigured, failCount := 0,
    countdown := 0, toggle := false, lastReply := none, lastClass := none }

/-- R89. -/
def StationTable.reset : StationTable :=
  { entries := Vector.replicate 32 Station.reset, changes := [] }

/-- R107. -/
def Bank.reset : Bank :=
  { slots := Vector.replicate 64 { station := 0, kind := .poll, selector := 0, enabled := false },
    length := 1 }

/-- R107. -/
def CycleUnit.reset : CycleUnit :=
  { bankA := .reset, bankB := .reset, active := .a, swapPending := false, state := .halted,
    pointer := 0, probeList := [], probePos := 0, timer := none, startPending := false,
    dispatched := false }

/-- The cleared staging area (section 7.1). -/
def Staging.cleared : Staging :=
  { kind := 0, station := 0, urgent := false, tag := 0, retry := 8, blocks := 0, payload := [] }

/-- R142. -/
def RequestUnit.reset : RequestUnit :=
  { staging := .cleared, urgent := [], normal := [] }

/-- R142. -/
def CompletionQueue.reset : CompletionQueue := { ring := [], reserved := 0 }

/-- All 128 blocks in ascending order (R161). -/
def Chain.all : Chain := (List.range 128).map (Fin.ofNat 128)

/-- An empty, unpinned record (R161). -/
def Snapshot.reset : Snapshot :=
  { current := none, next := none, generation := 0, pinned := false }

/-- R161, with the bytes of the blocks as after power-on. -/
def FrameStore.reset : FrameStore :=
  { mem := [], free := .all, snapshots := Vector.replicate 32 Snapshot.reset, cursor := .staging }

/-- R173. -/
def TimeBase.reset : TimeBase := { prescaler := 0, counter := 0, hold := 0 }

/-- R175. -/
def EventUnit.reset : EventUnit :=
  { latches := 0, enables := 0, routes := Vector.replicate 12 { level := 0, output := .a } }

/-- R190. -/
def BusInterface.reset : BusInterface :=
  { result := .done, answered := 0, tabIndex := 0, tabSelect := 0, tabPage := false,
    image := Vector.replicate 8 0 }

/-- RESET released, the clock running, no access under way. -/
def Pins.reset : Pins :=
  { resetPin := false, clock := true, strobeHeld := false, dataBus := none }

/-- The part right after a hard reset at power-on: RESET has just been released. -/
def State.reset : State :=
  { li := .reset, le := .reset, st := .reset, cu := .reset, pollRun := 0, ru := .reset,
    cq := .reset, fs := .reset, tb := .reset, eu := .reset, bi := .reset, pins := .reset,
    lineIn := [], choice := 0, pending := [] }

end Sys2Proof.Machine
end

