-- ==== Sys2Proof/Machine/Ops.lean ====
section
/-! DEFINITION. The operations every block uses: reading and writing one station entry, raising an
event, and the forms that every host access, every command and every timed event takes. -/

namespace Sys2Proof.Machine

/-- What `exec` and `step` answer. -/
abbrev StepOutcome := Host.Outcome State Fault Refusal

/-! ## Station entries and events -/

/-- The Station Table entry of an index. -/
def State.station (s : State) (i : Fin 32) : Station := s.st.entries.get i

/-- Replaces the Station Table entry of an index. -/
def State.setStation (s : State) (i : Fin 32) (e : Station) : State :=
  { s with st := { s.st with entries := s.st.entries.set i e } }

/-- Applies a function to every entry of the Station Table. -/
def State.mapStations (s : State) (f : Station → Station) : State :=
  { s with st := { s.st with entries := Vector.ofFn fun i => f (s.st.entries.get i) } }

/-- The number of an event, E0 to E11 (section 9.2). -/
def Event.number : Event → Fin 12
  | .completionPosted => 0
  | .completionsPending => 1
  | .stationNotice => 2
  | .stationOffline => 3
  | .cycleEnd => 4
  | .cycleOverrun => 5
  | .lineContention => 6
  | .breakSeen => 7
  | .bufferWait => 8
  | .lineStopped => 9
  | .commandError => 10
  | .snapshotUpdated => 11

/-- The position of an event in EV_LATCH and EV_ENABLE: bit n for En (section 10.7.2). -/
def Event.bit (e : Event) : BitVec 12 := 1#12 <<< e.number.val

/-- A block raises an occurrence: its latch is set, whatever its enable and route (R167). -/
def State.raise (s : State) (e : Event) : State :=
  { s with eu := { s.eu with latches := s.eu.latches ||| e.bit } }

/-- Raises the occurrence when the condition holds. -/
def State.raiseIf (s : State) (c : Bool) (e : Event) : State := if c then s.raise e else s

/-! ## Where either of two events may be taken first -/

/-- Asks the free value of the present choice and moves on to the next (log 8). -/
def State.choose (s : State) : Bool × State :=
  (Config.firstTaken s.choice, { s with choice := s.choice + 1 })

/-! ## Accesses, commands and timed events -/

/-- A write access. While RESET is asserted the write is lost (R190). A write whose strobe was
asserted when RESET was released is lost too, and ends that access (R194). -/
def hostWrite (f : State → State) (s : State) : State :=
  if s.pins.resetPin then s
  else if s.pins.strobeHeld then { s with pins := { s.pins with strobeHeld := false } }
  else f s

/-- A read access, which drives a word onto the data bus. A read that is not taken drives nothing
(R190, R194). -/
def hostRead (f : State → Word × State) (s : State) : State :=
  if s.pins.resetPin then { s with pins := { s.pins with dataBus := none } }
  else if s.pins.strobeHeld then
    { s with pins := { s.pins with strobeHeld := false, dataBus := none } }
  else
    let (w, t) := f s
    { t with pins := { t.pins with dataBus := some w } }

/-- The result of a command is placed in CRES with its code (R180), and a result other than DONE
raises COMMAND_ERROR (R179). -/
def State.answer (s : State) (code : Byte) (r : ResultCode) : State :=
  let t := { s with bi := { s.bi with result := r, answered := code } }
  if r = .done then t else t.raise .commandError

/-- What carries out a command: the state it leaves and its result code. -/
abbrev CommandOp := State → State × ResultCode

/-- A write of CMD: the owning rule carries the command out, and CRES takes its result (R179). -/
def hostCommand (code : Byte) (op : CommandOp) : State → State :=
  hostWrite fun s => (op s).1.answer code (op s).2

/-- Counted time passes: the clock runs and RESET is not asserted (R173, R192). -/
def State.timeRuns (s : State) : Bool := s.pins.clock && !s.pins.resetPin

/-- An event that counted time brings about. While the clock stands or RESET is asserted no such
event comes (R173, R190, R192). -/
def timed (f : State → State) (s : State) : State := if s.timeRuns then f s else s

/-- The station index an operand byte names: 0 to 31, or none (R181). -/
def stationOperand (operand : Byte) : Option (Fin 32) :=
  if h : operand.toNat < 32 then some ⟨operand.toNat, h⟩ else none

/-- A command that takes a station index: an operand of 32 to 255 answers BAD_OPERAND and the
owning block is not reached (R181). -/
def stationCommand (op : Fin 32 → CommandOp) (operand : Byte) : CommandOp := fun s =>
  match stationOperand operand with
  | some i => op i s
  | none => (s, .badOperand)

end Sys2Proof.Machine
end

