-- ==== Sys2Proof/Machine/FrameStore.lean ====
section
/-! DEFINITION. The Frame Store (Chapter 8): bytes and chains, the free list, snapshots, and the
data-port cursor. -/

namespace Sys2Proof.Machine

/-! ## Bytes -/

/-- The byte at an address of the store. -/
def Memory.read (a : Nat) : Memory → Byte
  | [] => Config.blankByte
  | c :: m => if c.1 = a then c.2 else Memory.read a m

/-- Stores a byte, keeping the canonical form: a blank byte is not listed. -/
def Memory.write (a : Nat) (v : Byte) : Memory → Memory
  | [] => if v = Config.blankByte then [] else [(a, v)]
  | c :: m =>
    if a < c.1 then (if v = Config.blankByte then c :: m else (a, v) :: c :: m)
    else if a = c.1 then (if v = Config.blankByte then m else (a, v) :: m)
    else c :: Memory.write a v m

/-- The address of byte k of a chain: byte k mod 32 of its (k div 32) + 1-th block, if the chain
reaches so far (R28, R125, R158). -/
def chainAddress (chain : Chain) (k : Nat) : Option Nat :=
  (chain[k / Config.blockBytes]?).map fun b => b.val * Config.blockBytes + k % Config.blockBytes

/-- Byte k of a chain. -/
def Memory.chainByte (m : Memory) (c : Chain) (k : Nat) : Byte :=
  match chainAddress c k with
  | some a => m.read a
  | none => Config.blankByte

/-- Stores byte k of a chain; a byte beyond the chain is not stored (R28). -/
def Memory.storeAt (m : Memory) (c : Chain) (k : Nat) (v : Byte) : Memory :=
  match chainAddress c k with
  | some a => m.write a v
  | none => m

/-- Copies bytes into a chain from its byte k on (R125). -/
def Memory.storeFrom (c : Chain) (k : Nat) : List Byte → Memory → Memory
  | [], m => m
  | v :: vs, m => Memory.storeFrom c (k + 1) vs (m.storeAt c k v)

/-! ## The free list -/

/-- The blocks that a length takes: length / 32, rounded up (R124, R148). -/
def blocksFor (length : Nat) : Nat := (length + 31) / Config.blockBytes

/-- The free count (R144). -/
def State.freeCount (s : State) : Nat := s.fs.free.length

/-- An allocation claim, answered whole: the blocks come from the front of the free list, in order;
a claim that cannot be met takes none (R145). -/
def State.allocate (s : State) (n : Nat) : Option (Chain × State) :=
  if n ≤ s.freeCount then
    some (s.fs.free.take n, { s with fs := { s.fs with free := s.fs.free.drop n } })
  else none

/-- A chain is freed: appended at the back of the free list, in chain order (R146). -/
def State.freeChain (s : State) (c : Chain) : State :=
  { s with fs := { s.fs with free := s.fs.free ++ c } }

/-! ## Snapshots -/

def State.snapshot (s : State) (i : Fin 32) : Snapshot := s.fs.snapshots.get i

def State.setSnapshot (s : State) (i : Fin 32) (x : Snapshot) : State :=
  { s with fs := { s.fs with snapshots := s.fs.snapshots.set i x } }

def State.setCursor (s : State) (c : Cursor) : State :=
  { s with fs := { s.fs with cursor := c } }

/-- The chain of a reply that may not be there. -/
def replyChain : Option Installed → Chain
  | none => []
  | some r => r.chain

/-- An installation: into current when the record is not pinned, else into next; the reply replaced
gives its chain back; the generation counts it; SNAPSHOT_UPDATED is raised when the station's watch
field is yes (R150). -/
def State.install (s : State) (i : Fin 32) (chain : Chain) (length : BitVec 7) (kind : SnapKind) :
    State :=
  let x := s.snapshot i
  let r : Installed := { chain := chain, length := length, kind := kind, stamp := s.tb.counter }
  let t :=
    if x.pinned then
      (s.freeChain (replyChain x.next)).setSnapshot i
        { x with next := some r, generation := x.generation + 1 }
    else
      (s.freeChain (replyChain x.current)).setSnapshot i
        { x with current := some r, generation := x.generation + 1 }
  t.raiseIf (s.station i).watch .snapshotUpdated

/-- SNAP_PIN (R153). -/
def snapPin (i : Fin 32) : CommandOp := fun s =>
  let x := s.snapshot i
  if x.pinned then (s, .already)
  else if x.current.isNone then (s, .empty)
  else (s.setSnapshot i { x with pinned := true }, .done)

/-- The cursor stands on the current chain of this station (R153). -/
def Cursor.onSnapshot (c : Cursor) (i : Fin 32) : Bool :=
  match c with
  | .snapshot j _ _ => decide (j = i)
  | .staging | .completion _ _ | .none => false

/-- What SNAP_UNPIN does to a pinned record: the cursor leaves its chain, the pin is cleared, and a
next reply is promoted in place of current, whose chain is freed (R153). -/
def unpin (i : Fin 32) (s : State) : State :=
  let x := s.snapshot i
  let s1 := if s.fs.cursor.onSnapshot i then s.setCursor .none else s
  match x.next with
  | none => s1.setSnapshot i { x with pinned := false }
  | some n =>
    (s1.freeChain (replyChain x.current)).setSnapshot i
      { x with pinned := false, current := some n, next := none }

/-- SNAP_OPEN (R154). -/
def snapOpen (i : Fin 32) : CommandOp := fun s =>
  let x := s.snapshot i
  if !x.pinned then (s, .refusedState)
  else
    match x.current with
    | none => (s, .empty)
    | some r =>
      if r.chain = [] then (s, .empty)
      else (s.setCursor (.snapshot i 0 r.length), .done)

/-! ## The data port -/

/-- The staged length (R122). -/
def State.stagedLength (s : State) : Nat := s.ru.staging.payload.length

/-- A write of DPORT: appends to the staging payload while the cursor is STAGING and there is room;
otherwise it is discarded, as misuse (R157, R159). -/
def dportWrite (v : Byte) (s : State) : State :=
  match s.fs.cursor with
  | .staging =>
    if s.stagedLength < 96 then
      { s with
        ru := { s.ru with
          staging := { s.ru.staging with payload := s.ru.staging.payload ++ [v] } } }
    else s.raise .commandError
  | .completion _ _ | .snapshot _ _ _ | .none => s.raise .commandError

/-- The chain under the cursor: the head record's reply chain, or a station's current chain. -/
def State.cursorChain (s : State) : Chain :=
  match s.fs.cursor with
  | .completion _ _ =>
    match s.cq.ring with
    | [] => []
    | r :: _ => r.chain
  | .snapshot i _ _ => replyChain (s.snapshot i).current
  | .staging | .none => []

/-- A read of DPORT: the next byte of the chain under the cursor, which then moves on; otherwise 0,
as misuse (R158, R159). -/
def dportRead (s : State) : Word × State :=
  match s.fs.cursor with
  | .completion p r =>
    if r = 0 then (0, s.raise .commandError)
    else ((s.fs.mem.chainByte s.cursorChain p.toNat).setWidth 16,
      s.setCursor (.completion (p + 1) (r - 1)))
  | .snapshot i p r =>
    if r = 0 then (0, s.raise .commandError)
    else ((s.fs.mem.chainByte s.cursorChain p.toNat).setWidth 16,
      s.setCursor (.snapshot i (p + 1) (r - 1)))
  | .staging | .none => (0, s.raise .commandError)

/-- DREM: the bytes the cursor leaves for the host (R160). -/
def State.drem (s : State) : BitVec 7 :=
  match s.fs.cursor with
  | .staging => BitVec.ofNat 7 (96 - s.stagedLength)
  | .completion _ r => r
  | .snapshot _ _ r => r
  | .none => 0

end Sys2Proof.Machine
end

