-- ==== Sys2Proof/Machine/Completions.lean ====
section
/-! DEFINITION. The Completion Queue (sections 7.3 and 7.5): postings, the head, retiring. -/

namespace Sys2Proof.Machine

/-- A posting: the record goes to the tail of the ring with the stamp of the moment, one reserved
slot becomes an occupied one, and COMPLETION_POSTED is raised (R129). -/
def State.post (s : State) (r : Record) : State :=
  ({ s with
    cq := { ring := s.cq.ring ++ [{ r with stamp := s.tb.counter }], reserved := s.cq.reserved - 1 } }
    : State).raise .completionPosted

/-- The record of a request that ends in its queue, before any dispatch (R131). -/
def Request.record (r : Request) (o : ReqOutcome) (cancel : Bool) : Record :=
  { tag := r.tag, kind := r.kind, station := r.station, outcome := o, attempts := 0,
    busyCount := 0, cause := none, replyKind := none, replyLength := none, chain := [],
    nakReason := none, cancel := cancel, stamp := 0 }

/-- The record of a dispatched request that ends without a reply (R130, R131). -/
def Transaction.record (t : Transaction) (tag : Word) (o : ReqOutcome) (cancel : Bool) : Record :=
  { tag := tag, kind := t.kind, station := t.target, outcome := o, attempts := t.attempts,
    busyCount := t.busyCount, cause := none, replyKind := none, replyLength := none, chain := [],
    nakReason := none, cancel := cancel, stamp := 0 }

/-- A request removed from its queue: its payload chain is freed and then its record is posted
(R114, R132, R136, R147). -/
def State.endQueued (s : State) (r : Request) (o : ReqOutcome) (cancel : Bool) : State :=
  (s.freeChain r.payload).post (r.record o cancel)

/-- A transaction removed from the deferred list: a request has its payload chain freed and its
record posted, a cycle item is dropped (R53, R133, R137). -/
def State.endDeferred (s : State) (t : Transaction) (o : ReqOutcome) (cancel : Bool) : State :=
  match t.origin with
  | .request tag => (s.freeChain t.payload).post (t.record tag o cancel)
  | .pollSlot | .readSlot | .probe => s

/-- CP_OPEN (R139). -/
def cpOpen : CommandOp := fun s =>
  match s.cq.ring with
  | [] => (s, .empty)
  | r :: _ =>
    if r.chain = [] then (s, .empty)
    else (s.setCursor (.completion 0 (r.replyLength.getD 0)), .done)

/-- What CP_RETIRE does to a ring that is not empty (R140). -/
def retireHead (r : Record) (rest : List Record) (s : State) : State :=
  let s1 :=
    match s.fs.cursor with
    | .completion _ _ => s.setCursor .none
    | .staging | .snapshot _ _ _ | .none => s
  let s2 := s1.freeChain r.chain
  { s2 with cq := { s2.cq with ring := rest } }

/-- COMPLETIONS_PENDING: the occupied count is at least the completion threshold (R141). -/
def State.completionsPending (s : State) : Bool :=
  decide (s.le.params.threshold.toNat ≤ s.cq.ring.length)

end Sys2Proof.Machine
end

