-- ==== Sys2Proof/Machine/StationTable.lean ====
section
/-! DEFINITION. The Station Table (Chapter 4): station reports, the change queue, enabling and
disabling. -/

namespace Sys2Proof.Machine

/-! ## The change queue -/

/-- Counts one more change, held at 255 (R86). -/
def Notice.again (n : Notice) (new : StationState) (stamp : Stamp) : Notice :=
  { n with
    latestNew := new
    count := if n.count = 255 then 255 else n.count + 1
    stamp := stamp }

/-- A change of state of station i: merged into the notice it already has, else a new notice at the
tail (R85, R86). -/
def notedIn (q : List Notice) (i : Fin 32) (old new : StationState) (stamp : Stamp) : List Notice :=
  if q.any fun n => decide (n.station = i) then
    q.map fun n => if n.station = i then n.again new stamp else n
  else q ++ [{ station := i, firstOld := old, latestNew := new, count := 1, stamp := stamp }]

/-- Makes a notice when the state has changed; none otherwise (R85). -/
def State.note (s : State) (i : Fin 32) (old new : StationState) : State :=
  if old = new then s
  else { s with st := { s.st with changes := notedIn s.st.changes i old new s.tb.counter } }

/-! ## Station reports -/

/-- The class of an outcome for its station (R55). -/
inductive ReportClass where
  | answered | failed | neither
deriving DecidableEq, Repr

/-- A station report (section 4.2.1). -/
structure Report where
  cls : ReportClass
  kind : Option ReplyKind
  toggle : Option Bool
  identClass : Option Byte
deriving DecidableEq, Repr

/-- The entry takes part in line work: it is neither UNCONFIGURED nor DISABLED. -/
def StationState.active : StationState → Bool
  | .unconfigured | .disabled => false
  | .probing | .online | .degraded | .offline | .mismatched => true

/-- An answered report that carries no IDENT class (R70). -/
def Station.answered (e : Station) : Station :=
  match e.state with
  | .online | .degraded => { e with state := .online, failCount := 0 }
  | .probing => { e with failCount := 0 }
  | .offline => { e with state := .probing, failCount := 0, countdown := 0 }
  | .mismatched => { e with failCount := 0 }
  | .unconfigured | .disabled => e

/-- The class matches the expected class: any does when that is 0 (R71). -/
def Station.classMatches (e : Station) (c : Byte) : Bool :=
  decide (e.expectedClass = 0) || decide (e.expectedClass = c)

/-- A report that carries an IDENT class (R71). -/
def Station.identified (e : Station) (c : Byte) : Station :=
  { e with
    state := if e.classMatches c then .online else .mismatched
    failCount := 0
    lastClass := some c
    countdown := if e.state = .offline then 0 else e.countdown }

/-- One more failure: OFFLINE with the countdown loaded on reaching the fail limit, else the state
given (R72). -/
def Station.failTo (e : Station) (count : BitVec 4) (below : StationState) : Station :=
  if e.failLimit.toNat ≤ count.toNat then
    { e with failCount := count, state := .offline, countdown := e.probeInterval }
  else { e with failCount := count, state := below }

/-- A failed report (R72). -/
def Station.failed (e : Station) : Station :=
  match e.state with
  | .online => e.failTo 1 .degraded
  | .degraded => e.failTo (e.failCount + 1) .degraded
  | .probing => e.failTo (e.failCount + 1) .probing
  | .offline => { e with countdown := e.probeInterval }
  | .mismatched | .unconfigured | .disabled => e

/-- What a report leaves of an active entry (R68, R70 to R73, R76, R77). -/
def Station.afterReport (e : Station) (r : Report) : Station :=
  match r.cls with
  | .neither => e
  | .failed => e.failed
  | .answered =>
    let t :=
      match r.identClass with
      | some c => e.identified c
      | none => e.answered
    { t with toggle := r.toggle.getD t.toggle, lastReply := r.kind }

/-- A station report is taken whole; for an entry that is DISABLED (or UNCONFIGURED, which no
transaction targets) it changes nothing (R68, R69). The notice and STATION_OFFLINE come last
(R78, R85). -/
def State.stationReport (s : State) (i : Fin 32) (r : Report) : State :=
  let e := s.station i
  if e.state.active then
    let e' := e.afterReport r
    ((s.setStation i e').note i e.state e'.state).raiseIf
      (decide (e'.state = .offline) && decide (e.state ≠ .offline)) .stationOffline
  else s

/-- A BUSY report: only the last reply kind changes (R69, R73). -/
def State.busyReport (s : State) (i : Fin 32) : State :=
  let e := s.station i
  if e.state.active then s.setStation i { e with lastReply := some .busy } else s

/-- The end of the low period of a sent break sets all 32 toggles to 0 (R34, R76). -/
def State.clearToggles (s : State) : State := s.mapStations fun e => { e with toggle := false }

/-! ## Commands -/

/-- What STN_ENABLE does to a DISABLED entry (R79). -/
def enableStation (i : Fin 32) (s : State) : State :=
  let e := s.station i
  (s.setStation i
    { e with
      state := .probing, failCount := 0, countdown := 0, lastReply := none, lastClass := none }).note
    i .disabled .probing

/-- What STN_DISABLE does to an active entry (R80). -/
def disableStation (i : Fin 32) (s : State) : State :=
  let e := s.station i
  (s.setStation i { e with state := .disabled }).note i e.state .disabled

/-- CHG_POP (R87). -/
def chgPop : CommandOp := fun s =>
  match s.st.changes with
  | [] => (s, .empty)
  | _ :: q => ({ s with st := { s.st with changes := q } }, .done)

end Sys2Proof.Machine
end

