-- ==== Sys2Proof/Machine/CycleUnit.lean ====
section
/-! DEFINITION. The Cycle Unit (Chapter 5): banks, the walk, the probe phase, the period timer. -/

namespace Sys2Proof.Machine

/-! ## Banks and slots -/

def BankName.other : BankName → BankName
  | .a => .b
  | .b => .a

def CycleUnit.bank (c : CycleUnit) : BankName → Bank
  | .a => c.bankA
  | .b => c.bankB

def CycleUnit.setBank (c : CycleUnit) (n : BankName) (b : Bank) : CycleUnit :=
  match n with
  | .a => { c with bankA := b }
  | .b => { c with bankB := b }

/-- The bank the walk reads (R91). -/
def CycleUnit.activeBank (c : CycleUnit) : Bank := c.bank c.active

/-- An exchange of the banks: the selector flips and the swap-pending mark is cleared (R95). -/
def State.exchangeBanks (s : State) : State :=
  { s with cu := { s.cu with active := s.cu.active.other, swapPending := false } }

/-! ## What the cycle offers -/

/-- The walk serves stations that are ONLINE or DEGRADED (R98). -/
def StationState.polled : StationState → Bool
  | .online | .degraded => true
  | .unconfigured | .disabled | .probing | .offline | .mismatched => false

/-- The probe phase serves stations that are PROBING or OFFLINE (R100). -/
def StationState.sought : StationState → Bool
  | .probing | .offline => true
  | .unconfigured | .disabled | .online | .degraded | .mismatched => false

/-- The slot of the active bank at a pointer qualifies (R98). -/
def State.slotQualifies (s : State) (n : Nat) : Bool :=
  match s.cu.activeBank.slots[n]? with
  | some x => x.enabled && (s.station x.station).state.polled
  | none => false

/-- The probe-list entry at a position qualifies (R100). -/
def State.probeQualifies (s : State) (n : Nat) : Bool :=
  match s.cu.probeList[n]? with
  | some i => (s.station i).state.sought
  | none => false

/-- The first position from `p` on, within `k` steps, that qualifies; else the position after them. -/
def skipTo (q : Nat → Bool) : Nat → Nat → Nat
  | 0, p => p
  | k + 1, p => if q p then p else skipTo q k (p + 1)

/-- An item the cycle offers (R99, R100). -/
inductive Offer where
  | slot (x : Slot)
  | probe (i : Fin 32)
deriving DecidableEq, Repr

/-- The offer: the slot at the walk pointer, or the probe-list entry at the probe position, while it
qualifies (R98, R100). -/
def State.offer (s : State) : Option Offer :=
  match s.cu.state with
  | .walking =>
    if s.cu.pointer < s.cu.activeBank.length.toNat && s.slotQualifies s.cu.pointer then
      (s.cu.activeBank.slots[s.cu.pointer]?).map .slot
    else none
  | .probePhase =>
    if s.probeQualifies s.cu.probePos then (s.cu.probeList[s.cu.probePos]?).map .probe else none
  | .halted | .waiting => none

/-! ## The cycle -/

/-- A cycle start counts down an OFFLINE entry whose countdown is above 0 (R75). -/
def Station.countDown (e : Station) : Station :=
  if e.state = .offline ∧ e.countdown ≠ 0 then { e with countdown := e.countdown - 1 } else e

/-- The stations of the probe list: PROBING, or OFFLINE with a countdown of 0, by index (R97). -/
def State.probeListNow (s : State) : List (Fin 32) :=
  (List.finRange 32).filter fun i =>
    let e := s.station i
    decide (e.state = .probing) || (decide (e.state = .offline) && decide (e.countdown = 0))

/-- Loads the period timer with the cycle period; a period of 0 leaves it stopped (R102). -/
def State.loadTimer (s : State) : State :=
  { s with
    cu := { s.cu with timer := if s.le.params.period = 0 then none else some s.le.params.period } }

/-- A cycle starts, up to its entry into WALKING (R96, steps 1 to 4). -/
def State.cycleStart (s : State) : State :=
  let t := s.mapStations Station.countDown
  { t with
    cu := { t.cu with
      state := .walking, pointer := 0, probeList := t.probeListNow, probePos := 0,
      dispatched := false } }

/-- A cycle start made from a cycle end or from the next tick: a stopped timer is loaded first
(R102, R104). -/
def State.cycleStartLoading (s : State) : State :=
  (if s.cu.timer.isNone then s.loadTimer else s).cycleStart

/-- The cycle ends (R101). -/
def State.cycleEnd (s : State) : State :=
  let s1 := s.raise .cycleEnd
  let s2 := if s1.cu.swapPending then s1.exchangeBanks else s1
  if s2.cu.startPending then
    ({ s2 with cu := { s2.cu with startPending := false } } : State).cycleStartLoading
  else if s2.cu.timer.isNone && s2.cu.dispatched then s2.cycleStartLoading
  else { s2 with cu := { s2.cu with state := .waiting } }

/-- The Cycle Unit forms its offer: what does not qualify is passed over, the end of the walk leads
into the probe phase, and the end of the probe phase ends the cycle, which may start the next one at
once (R98, R100, R101). `fuel` bounds the passages. -/
def State.formOfferIn (fuel : Nat) (s : State) : State :=
  match fuel with
  | 0 => s
  | k + 1 =>
    match s.cu.state with
    | .halted | .waiting => s
    | .walking =>
      let n := s.cu.activeBank.length.toNat
      let p := skipTo s.slotQualifies (n - s.cu.pointer) s.cu.pointer
      if p < n then { s with cu := { s.cu with pointer := p } }
      else
        ({ s with cu := { s.cu with pointer := p, state := .probePhase } } : State).formOfferIn k
    | .probePhase =>
      let n := s.cu.probeList.length
      let p := skipTo s.probeQualifies (n - s.cu.probePos) s.cu.probePos
      if p < n then { s with cu := { s.cu with probePos := p } }
      else ({ s with cu := { s.cu with probePos := p } } : State).cycleEnd.formOfferIn k

/-- The Cycle Unit forms its offer. -/
def State.formOffer (s : State) : State := s.formOfferIn Config.cyclePasses

/-- The arbiter takes the offer: the pointer or the position advances, the dispatched-in-cycle mark
is set, a probe to an OFFLINE station reloads its countdown, and the next offer is formed
(R99, R100, R75). -/
def State.takeOffer (s : State) (o : Offer) : State :=
  match o with
  | .slot _ =>
    ({ s with
      cu := { s.cu with pointer := s.cu.pointer + 1, dispatched := true } } : State).formOffer
  | .probe i =>
    let e := s.station i
    let t := if e.state = .offline then s.setStation i { e with countdown := e.probeInterval } else s
    ({ t with
      cu := { t.cu with probePos := t.cu.probePos + 1, dispatched := true } } : State).formOffer

/-! ## The period -/

/-- The period expires: the timer is loaded again, and the expiry starts a cycle from WAITING, or
marks a start and raises CYCLE_OVERRUN while a cycle runs (R102, R103). -/
def State.expirePeriod (s : State) : State :=
  let t := s.loadTimer
  match t.cu.state with
  | .halted => t
  | .waiting => t.cycleStart
  | .walking | .probePhase =>
    ({ t with cu := { t.cu with startPending := true } } : State).raise .cycleOverrun

/-- What a tick does to the Cycle Unit: it counts a running timer down, or starts the cycle of a
unit that waits for it (R102, R104). -/
def State.tickCycle (s : State) : State :=
  match s.cu.timer with
  | some n =>
    if n.toNat ≤ 1 then s.expirePeriod else { s with cu := { s.cu with timer := some (n - 1) } }
  | none => if s.cu.state = .waiting then s.cycleStartLoading else s

/-! ## Schedule commands -/

/-- What SCHED_RUN does in HALTED (R105). -/
def runSchedule (s : State) : State :=
  let s1 := if s.cu.swapPending then s.exchangeBanks else s
  ({ s1 with cu := { s1.cu with startPending := false } } : State).loadTimer.cycleStart

/-- What SCHED_HALT does outside HALTED: the swap-pending mark and the banks are kept (R106). -/
def haltSchedule (s : State) : State :=
  { s with
    cu := { s.cu with
      state := .halted, pointer := 0, probeList := [], probePos := 0, startPending := false,
      dispatched := false, timer := none } }

/-- SCHED_SWAP (R94). -/
def schedSwap : CommandOp := fun s =>
  if s.cu.state = .halted then (s.exchangeBanks, .done)
  else if s.cu.swapPending then (s, .already)
  else ({ s with cu := { s.cu with swapPending := true } }, .done)

end Sys2Proof.Machine
end

