-- ==== Sys2Proof/Machine/LineInterface.lean ====
section
/-! DEFINITION. The Line Interface's own parts (Chapter 1): the levels it drives, how samples are
decided, and the orders it takes. What its reports do to the engine is in LineEvents. -/

namespace Sys2Proof.Machine

/-! ## The pins -/

/-- The level of a character's bit position: start bit low, data bits 0 to 7, mark bit, stop bit
high (R1). -/
def TxChar.level (c : TxChar) (position : Nat) : Bool :=
  if position = 0 then false
  else if position ≤ 8 then c.data.getLsbD (position - 1)
  else if position = 9 then c.mark
  else true

/-- LTX, the line transmit output: high while no character or break is in progress (R1, R13). -/
def LineInterface.ltx (l : LineInterface) : Bool :=
  match l.tx with
  | .sending c n _ => c.level (n / Config.samplesPerBit)
  | .breakLow _ => false
  | .released | .turnaround _ | .releaseBit _ | .breakHigh _ => true

/-- LDE, the driver enable output (R8, R11, R13). -/
def LineInterface.lde (l : LineInterface) : Bool :=
  match l.tx with
  | .released => false
  | .turnaround _ | .sending _ _ _ | .releaseBit _ | .breakLow _ | .breakHigh _ => true

/-! ## Deciding bits -/

/-- The samples of the position under decision, with the one numbered `n`: a position is decided
from samples 7, 8 and 9 of its sixteen (R3, R4). -/
def votesWith (n : Nat) (level : Bool) (votes : List Bool) : List Bool :=
  if n % 16 = 7 then [level]
  else if n % 16 = 8 ∨ n % 16 = 9 then votes ++ [level]
  else votes

/-- The level shared by at least two of three samples (R4). -/
def majority (votes : List Bool) : Bool := decide (2 ≤ votes.count true)

/-- The samples are all alike (R3, R4). -/
def alike (votes : List Bool) : Bool := votes.all id || votes.all not

/-- Takes the sample numbered `n`; at a ninth sample the position is decided (R4). -/
def Shift.sample (h : Shift) (n : Nat) (level : Bool) : Shift × Option Bool :=
  let v := votesWith n level h.votes
  if n % 16 = 9 then
    ({ votes := [], bits := h.bits ++ [majority v], noise := h.noise || !alike v },
      some (majority v))
  else ({ h with votes := v }, none)

/-- The candidate start edge that a sample is in HUNTING: a low sample that follows a high one, as its
sample 0 (R3). -/
def edgeAt (before level : Bool) : Option (Nat × Shift) :=
  if before && !level then some (0, Shift.fresh) else none

/-- A byte from its bits, least significant first. -/
def byteOf (bits : List Bool) : Byte :=
  BitVec.ofNat 8 (bits.foldr (fun b n => b.toNat + 2 * n) 0)

/-- The character report of eleven decided positions: the framing mark is a stop bit decided low
(R4, R5). -/
def Shift.report (h : Shift) : LineChar :=
  { data := byteOf ((h.bits.drop 1).take 8), mark := h.bits.getD 9 false, noise := h.noise,
    framing := !h.bits.getD 10 true }

/-- The echo report: the framing mark is also a start bit decided high (R10). -/
def Shift.echo (h : Shift) : LineChar :=
  { h.report with framing := h.bits.getD 0 false || !h.bits.getD 10 true }

/-! ## The quiet monitor -/

/-- The quiet timer is reset, and a QUIET monitor becomes ACTIVE (R14). -/
def LineInterface.goActive (l : LineInterface) : LineInterface :=
  { l with monitor := .active, quietTimer := 0 }

/-- The timer value at which the monitor becomes QUIET: the quiet interval times 176 (R14). -/
def LineParams.quietSamples (p : LineParams) : Nat := p.quiet.toNat * Config.samplesPerChar

/-- An order enables the driver, which makes the monitor ACTIVE from that moment (R14). While the
reference clock stands no sample is taken and the quiet timer keeps its value (R192); while it runs, the
moment of the order counts as a sample, which resets the timer. DESIGN CHOICE (log 20). -/
def LineInterface.driverOrdered (l : LineInterface) (clock : Bool) : LineInterface :=
  { l with monitor := .active, quietTimer := if clock then 0 else l.quietTimer }

/-! ## Orders of the Line Engine -/

/-- The open order with the frame's first character: the driver is enabled and the turnaround runs
(R8). -/
def State.openOrder (s : State) (c : TxChar) : State :=
  { s with
    li := { s.li.driverOrdered s.pins.clock with
      tx := .turnaround (Config.samplesPerBit * s.le.params.turnaround.toNat), supplied := some c } }

/-- The withdraw order (R12). -/
def LineInterface.withdraw (l : LineInterface) : LineInterface :=
  match l.tx with
  | .turnaround _ => { l with tx := .releaseBit 0, supplied := none }
  | .sending _ _ _ => { l with supplied := none }
  | .released | .releaseBit _ | .breakLow _ | .breakHigh _ => l

/-- The low period of a break begins: the receiver abandons any character and enters HELD_LOW with
the break count unarmed (R13). DESIGN CHOICE: a beginning between two sample clocks counts as sample 0,
also for the 22 bit times of R34 (log 18). -/
def LineInterface.breakBegins (l : LineInterface) (clock : Bool) : LineInterface :=
  { l.driverOrdered clock with
    tx := .breakLow 0, breakWaiting := false, rx := .heldLow 0 [] false, oldRate := none }

/-- The break order: at once when the transmitter is at rest, else when its work is done (R13). DESIGN
CHOICE: an order during the stop bit of a broadcast's or a collision's last character, which is in none of
R13's three cases, waits likewise for the end of the stop bit and of the release bit (log 23). -/
def LineInterface.breakOrder (l : LineInterface) (clock : Bool) : LineInterface :=
  match l.tx with
  | .released => l.breakBegins clock
  | .turnaround _ | .sending _ _ _ | .releaseBit _ | .breakLow _ | .breakHigh _ =>
    { l with breakWaiting := true }

/-- The low period of the break in progress, if cut here, has lasted the 22 bit times that every
station is sure to recognise (R34). -/
def LineInterface.cutIsCertain (l : LineInterface) : Bool :=
  match l.tx with
  | .breakLow n => decide (Config.breakCertainSamples ≤ n)
  | .released | .turnaround _ | .sending _ _ _ | .releaseBit _ | .breakHigh _ => false

/-- The end-break order: the output goes high at the order (R13). DESIGN CHOICE (log 9): a break still
waiting for earlier work is given up before its low period begins, and a high bit time that is running
already goes on from its count. -/
def LineInterface.endBreak (l : LineInterface) : LineInterface :=
  match l.tx with
  | .breakLow _ => { l with tx := .breakHigh 0, breakWaiting := false }
  | .released | .turnaround _ | .sending _ _ _ | .releaseBit _ | .breakHigh _ =>
    { l with breakWaiting := false }

/-- SOFT_RESET: any transmission is cut, and the receiver enters HELD_LOW, unarmed, aligned to this
moment; the monitor and its timer are kept (R17). -/
def LineInterface.softReset (l : LineInterface) : LineInterface :=
  { l with
    tx := .released, supplied := none, breakWaiting := false, rx := .heldLow 0 [] false,
    oldRate := none }

/-! ## The end of a stop bit -/

/-- The next character begins, and the receiver samples its echo (R9, R10). -/
def LineInterface.beginChar (l : LineInterface) (c : TxChar) : LineInterface :=
  { l with
    tx := .sending c 0 none, supplied := none, rx := .echoing Shift.fresh, oldRate := none }

/-- The stop bit of an echoed character ends: the character supplied begins, or else the release bit,
with the receiver in HUNTING, or in HELD_LOW after a framing-marked echo (R9, R11). -/
def LineInterface.endStopBit (l : LineInterface) (framing : Bool) : LineInterface :=
  match l.supplied with
  | some c => l.beginChar c
  | none =>
    { l with
      tx := .releaseBit 0
      rx := if framing then .heldLow 0 [] false else .hunting none }

/-- The stop bit of the last character is over, when its echo has been handed over and nothing was
supplied: what every report that can only come after it begins with. -/
def LineInterface.pastLastStopBit (l : LineInterface) : LineInterface :=
  match l.tx, l.supplied with
  | .sending _ _ (some framing), none => l.endStopBit framing
  | _, _ => l

end Sys2Proof.Machine
end

