-- ==== Sys2Proof/Machine/Operands.lean ====
section
/-! DEFINITION. The code values and bit layouts of section 10.7: how a field is taken out of a word
and put into one. -/

namespace Sys2Proof.Machine

/-! ## Bit fields -/

/-- The field of a word that begins at bit `lo` and is `n` bits wide. -/
def field (n lo : Nat) (w : Word) : BitVec n := w.extractLsb' lo n

/-- A word that holds the value at bit `lo` and 0 elsewhere. -/
def place (lo : Nat) {n : Nat} (v : BitVec n) : Word := v.setWidth 16 <<< lo

/-- A word that holds a yes/no field at bit `lo`. -/
def placeBool (lo : Nat) (b : Bool) : Word := place lo (BitVec.ofBool b)

/-- The station index held in a field. -/
def indexOf {n : Nat} (v : BitVec n) : Fin 32 := Fin.ofNat 32 v.toNat

/-- A station index as a 5-bit field. -/
def indexBits (i : Fin 32) : BitVec 5 := BitVec.ofNat 5 i.val

/-! ## Code values (section 10.7.1) -/

def EngineState.code : EngineState → BitVec 3
  | .stopped => 0 | .idle => 1 | .holding => 2 | .turnaround => 3 | .sending => 4
  | .awaiting => 5 | .receiving => 6 | .breaking => 7

def CycleState.code : CycleState → BitVec 2
  | .halted => 0 | .waiting => 1 | .walking => 2 | .probePhase => 3

def Cursor.code : Cursor → BitVec 2
  | .staging => 0 | .completion _ _ => 1 | .snapshot _ _ _ => 2 | .none => 3

def StationState.code : StationState → BitVec 3
  | .unconfigured => 0 | .disabled => 1 | .probing => 2 | .online => 3 | .degraded => 4
  | .offline => 5 | .mismatched => 6

/-- The command kind codes, which are also the request kind codes (sections 2.4, 10.7.1). -/
def CommandKind.code : CommandKind → BitVec 4
  | .poll => 1 | .read => 2 | .write => 3 | .probe => 4 | .bcast => 5 | .timesync => 6

/-- The request kind a code names, if any. -/
def requestKind (c : BitVec 4) : Option CommandKind :=
  if c = 2 then some .read
  else if c = 3 then some .write
  else if c = 4 then some .probe
  else if c = 5 then some .bcast
  else if c = 6 then some .timesync
  else none

def SlotKind.code : SlotKind → BitVec 4
  | .poll => 1 | .read => 2

/-- The slot kind a code names, if any. -/
def slotKind (c : BitVec 4) : Option SlotKind :=
  if c = 1 then some .poll else if c = 2 then some .read else none

def ReplyKind.code : ReplyKind → BitVec 4
  | .data => 8 | .ack => 9 | .nak => 10 | .busy => 11 | .ident => 12

/-- The reply kind a code names, if any (section 2.4). -/
def replyKindOf (c : BitVec 4) : Option ReplyKind :=
  if c = 8 then some .data
  else if c = 9 then some .ack
  else if c = 10 then some .nak
  else if c = 11 then some .busy
  else if c = 12 then some .ident
  else none

/-- An absent reply kind reads 0 (R188). -/
def replyKindCode : Option ReplyKind → BitVec 4
  | none => 0
  | some k => k.code

def ReqOutcome.code : ReqOutcome → BitVec 4
  | .ok => 1 | .sent => 2 | .nak => 3 | .sequence => 4 | .overlength => 5 | .busyExhausted => 6
  | .noReply => 7 | .corrupt => 8 | .wrongStation => 9 | .collision => 10 | .cancelled => 11
  | .aborted => 12 | .stationDisabled => 13 | .stationOffline => 14 | .stationMismatch => 15

def Cause.code : Cause → BitVec 4
  | .check => 1 | .framing => 2 | .noise => 3 | .gap => 4 | .truncated => 5 | .length => 6
  | .kind => 7 | .stray => 8

/-- An absent cause reads 0 (R188). -/
def causeCode : Option Cause → BitVec 4
  | none => 0
  | some c => c.code

def ResultCode.code : ResultCode → BitVec 4
  | .done => 0 | .refusedState => 1 | .full => 2 | .noBuffer => 3 | .badOperand => 4
  | .duplicate => 5 | .notFound => 6 | .empty => 7 | .entryBusy => 8 | .already => 9

def Output.code : Output → BitVec 2
  | .a => 0 | .b => 1

/-- The output a code names: 2 and 3 name neither. -/
def outputOf (c : BitVec 2) : Option Output :=
  if c = 0 then some .a else if c = 1 then some .b else none

def SnapKind.code : SnapKind → BitVec 1
  | .data => 0 | .ident => 1

/-! ## The table staging image (section 10.7.3) -/

/-- The eight words of the image, from a list of the first ones; the others are 0 (R185). -/
def imageOf (ws : List Word) : Vector Word 8 := Vector.ofFn fun i => ws.getD i.val 0

/-- The image of a station entry. An absent last reply kind or last class reads 0 (R188). -/
def Station.image (e : Station) : Vector Word 8 :=
  imageOf [
    place 0 e.address ||| place 8 e.expectedClass,
    place 0 e.retryLimit ||| place 4 e.busyLimit ||| place 8 e.failLimit
      ||| place 12 e.replyBlocks ||| placeBool 15 e.watch,
    place 0 e.probeInterval,
    0,
    place 0 e.state.code ||| placeBool 4 e.toggle ||| place 8 e.failCount,
    place 0 e.countdown,
    place 0 (replyKindCode e.lastReply) ||| placeBool 7 e.lastClass.isSome
      ||| place 8 (e.lastClass.getD 0)]

/-- The image of a schedule slot. -/
def Slot.image (x : Slot) : Vector Word 8 :=
  imageOf [
    place 0 (indexBits x.station) ||| place 8 x.kind.code ||| placeBool 15 x.enabled,
    place 0 x.selector]

/-- The image of a schedule length, with whether its bank is the active one (R93). -/
def lengthImage (length : BitVec 7) (active : Bool) : Vector Word 8 :=
  imageOf [place 0 length, placeBool 0 active]

/-- The image of the line parameters. -/
def LineParams.image (p : LineParams) : Vector Word 8 :=
  imageOf [
    place 0 p.divisor,
    place 0 p.turnaround ||| place 8 p.window,
    place 0 p.gap ||| place 4 p.quiet ||| place 8 p.breakLength ||| place 12 p.share,
    place 0 p.holdoff ||| place 8 p.threshold,
    p.period]

/-- The image of a snapshot record. An empty current reads 0 with the installed bit 0 (R188). -/
def Snapshot.image (x : Snapshot) : Vector Word 8 :=
  imageOf [
    x.generation,
    (match x.current with
      | none => 0
      | some c => place 0 c.length ||| placeBool 8 true ||| place 9 c.kind.code)
      ||| placeBool 14 x.next.isSome ||| placeBool 15 x.pinned,
    (match x.current with
      | none => 0
      | some c => field16 c.stamp 0),
    (match x.current with
      | none => 0
      | some c => field16 c.stamp 16)]
where
  /-- Sixteen bits of a stamp. -/
  field16 (v : Stamp) (lo : Nat) : Word := v.extractLsb' lo 16

/-- The image of a route entry. -/
def Route.image (r : Route) : Vector Word 8 :=
  imageOf [place 0 r.level ||| place 8 r.output.code]

/-- CHG_HEAD: the station and states of the head notice, with the presence bit (R187, R188). -/
def chgHeadWord : List Notice → Word
  | [] => 0
  | n :: _ => place 0 (indexBits n.station) ||| place 5 n.firstOld.code ||| place 8 n.latestNew.code
      ||| placeBool 15 true

/-- CHG_TIMES: the change count of the head notice (R187, R188). -/
def chgTimesWord : List Notice → Word
  | [] => 0
  | n :: _ => place 0 n.count

/-- The image of the change queue head (R187). -/
def changeHeadImage (q : List Notice) : Vector Word 8 :=
  let stamp := (q.head?.map Notice.stamp).getD 0
  imageOf [chgHeadWord q, chgTimesWord q, stamp.extractLsb' 0 16, stamp.extractLsb' 16 16]

/-- The configuration fields that the image stages for a station entry; the run fields are those of
the entry given (R186). -/
def Station.staged (e : Station) (image : Vector Word 8) : Station :=
  let w0 := image.get 0
  let w1 := image.get 1
  { e with
    address := field 8 0 w0
    expectedClass := field 8 8 w0
    retryLimit := field 3 0 w1
    busyLimit := field 4 4 w1
    failLimit := field 4 8 w1
    replyBlocks := field 2 12 w1
    watch := field 1 15 w1 = 1
    probeInterval := field 8 0 (image.get 2) }

/-- The line parameters that the image stages; the divisor is checked apart (R63). -/
def LineParams.staged (image : Vector Word 8) : LineParams :=
  let w1 := image.get 1
  let w2 := image.get 2
  let w3 := image.get 3
  { divisor := field 12 0 (image.get 0)
    turnaround := field 8 0 w1
    window := field 8 8 w1
    gap := field 4 0 w2
    quiet := field 4 4 w2
    breakLength := field 4 8 w2
    share := field 4 12 w2
    holdoff := field 8 0 w3
    threshold := field 6 8 w3
    period := image.get 4 }

end Sys2Proof.Machine
end

