-- ==== Sys2Proof/Machine/LineEngine.lean ====
section
/-! DEFINITION. The Line Engine (Chapters 2 and 3): command frames, judging replies, attempts,
retries, deferral and the end of a transaction. -/

namespace Sys2Proof.Machine

/-! ## The check (R20) -/

/-- Feeds one bit into the check register. -/
def checkBit (r : Word) (b : Bool) : Word :=
  if b != r.getLsbD 0 then (r >>> 1) ^^^ 0x8408#16 else r >>> 1

/-- Feeds one byte, bit 0 first. -/
def checkFeed (r : Word) (v : Byte) : Word :=
  (List.range 8).foldl (fun r i => checkBit r (v.getLsbD i)) r

/-! ## Command frames (R18 to R24) -/

/-- The CONTROL byte of a command: kind, toggle, direction 0 (R19). -/
def controlByte (k : CommandKind) (toggle : Bool) : Byte :=
  k.code.setWidth 8 ||| ((BitVec.ofBool toggle).setWidth 8 <<< 4)

/-- The LENGTH of a transaction's command frame (R23). -/
def Transaction.sendLength (t : Transaction) : Nat :=
  match t.origin with
  | .request _ => if t.kind = .timesync then 4 else t.length.toNat
  | .pollSlot => 0
  | .readSlot => 1
  | .probe => 0

/-- Payload byte k of a transaction's command frame: the latched tick counter of a TIMESYNC, low
byte first (R24), the selector of a cycle READ, or the payload chain (R23). -/
def State.sendByte (s : State) (t : Transaction) (k : Nat) : Byte :=
  match t.origin with
  | .request _ =>
    if t.kind = .timesync then s.le.attempt.latched.extractLsb' (8 * k) 8
    else s.fs.mem.chainByte t.payload k
  | .pollSlot | .probe => 0
  | .readSlot => t.selector

/-- The data bits of character number `n` (0 is ADDRESS) of the frame under way; none after the high
CHECK byte (R18, R21). -/
def State.frameByte (s : State) (t : Transaction) (n : Nat) : Option Byte :=
  let a := s.le.attempt
  let len := t.sendLength
  if n = 0 then some a.address
  else if n = 1 then some a.control
  else if n = 2 then some (BitVec.ofNat 8 len)
  else if n < 3 + len then some (s.sendByte t (n - 3))
  else if n = 3 + len then some (a.sendCheck.extractLsb' 0 8)
  else if n = 4 + len then some (a.sendCheck.extractLsb' 8 8)
  else none

/-- The engine supplies the next character of the frame, feeding the check with the characters it
covers (R21, R40). -/
def State.supplyNext (s : State) (t : Transaction) : State :=
  let a := s.le.attempt
  match s.frameByte t a.sent with
  | none => s
  | some v =>
    { s with
      li := { s.li with supplied := some { data := v, mark := false } }
      le := { s.le with
        attempt := { a with
          sent := a.sent + 1
          sendCheck := if a.sent < 3 + t.sendLength then checkFeed a.sendCheck v else a.sendCheck } } }

/-- The tick counter is latched for a TIMESYNC (R24). -/
def State.latchTick (s : State) : State :=
  match s.le.current with
  | some t =>
    if t.kind = .timesync then
      { s with le := { s.le with attempt := { s.le.attempt with latched := s.tb.counter } } }
    else s
  | none => s

/-- The first start bit of a frame begins: the receiver enters ECHOING and the engine SENDING
(R8, R10, R39). -/
def firstStart (c : TxChar) (s : State) : State :=
  let t := { s with li := s.li.beginChar c }
  if t.le.state = .turnaround then
    ({ t with le := { t.le with state := .sending } } : State).latchTick
  else t

/-- The start bit of a frame's first character begins when the turnaround has elapsed, at once when it
is 0 (R8). While the reference clock stands no bit boundary passes, and the start bit waits until the
clock runs again (R192, R193). DEDUCED for a turnaround of 0 (log 14). -/
def State.startIfElapsed (s : State) : State :=
  match s.li.tx, s.li.supplied with
  | .turnaround 0, some c => if s.pins.clock then firstStart c s else s
  | _, _ => s

/-- An attempt starts: address and toggle are read from the station entry, the check starts, and the
open order is given with the ADDRESS character, whose start bit begins at once after a turnaround of 0
(R8, R19, R22, R38, R50). -/
def startAttempt (t : Transaction) (s : State) : State :=
  let address := match t.target with
    | some i => (s.station i).address
    | none => 0
  let toggle := match t.target with
    | some i => decide (t.kind = .write) && (s.station i).toggle
    | none => false
  let a : Attempt := { Attempt.blank with
    address := address
    control := controlByte t.kind toggle
    toggle := toggle
    sent := 1
    sendCheck := checkFeed 0xFFFF#16 address }
  (({ s with le := { s.le with state := .turnaround, current := some t, attempt := a } }
    : State).openOrder { data := address, mark := true }).startIfElapsed

/-! ## Entering STOPPED and IDLE -/

/-- The engine enters STOPPED: the stop mark is cleared and LINE_STOPPED raised (R60). -/
def State.enterStopped (s : State) : State :=
  ({ s with le := { s.le with state := .stopped, stopMark := false } } : State).raise .lineStopped

/-- The engine holds no transaction any more, and enters IDLE, or STOPPED when the stop mark is set
(R51, R56 step 6, R60). -/
def State.engineFree (s : State) : State :=
  let t := { s with le := { s.le with current := none, attempt := Attempt.blank } }
  if t.le.stopMark then t.enterStopped else { t with le := { t.le with state := .idle } }

/-! ## Results and outcomes -/

/-- The result of an attempt (section 3.5). -/
inductive Result where
  /-- A well-formed reply: its kind, length, toggle echo and first payload byte (R31). -/
  | reply (kind : ReplyKind) (length : BitVec 7) (echo : Bool) (first : Byte)
  | overlength (kind : ReplyKind)
  | noReply
  | corrupt (cause : Cause)
  | wrongStation
  | collision
  | sent
deriving DecidableEq, Repr

/-- The outcome of a final result (R55); an ACK's echo is judged against the toggle sent (R32). -/
def Result.outcome (toggleSent : Bool) : Result → ReqOutcome
  | .reply .data _ _ _ => .ok
  | .reply .ack _ echo _ => if echo = toggleSent then .ok else .sequence
  | .reply .nak _ _ _ => .nak
  | .reply .busy _ _ _ => .busyExhausted
  | .reply .ident _ _ _ => .ok
  | .overlength _ => .overlength
  | .noReply => .noReply
  | .corrupt _ => .corrupt
  | .wrongStation => .wrongStation
  | .collision => .collision
  | .sent => .sent

/-- The class of a final result for its station (R55). -/
def Result.cls : Result → ReportClass
  | .reply _ _ _ _ | .overlength _ => .answered
  | .noReply | .corrupt _ | .wrongStation => .failed
  | .collision | .sent => .neither

/-- The toggle change handed on (R32, R33, R55). -/
def Result.toggleChange : Result → Option Bool
  | .reply .ack _ echo _ => some (!echo)
  | .reply .ident _ _ _ => some false
  | .overlength .ident => some false
  | .reply .data _ _ _ | .reply .nak _ _ _ | .reply .busy _ _ _ => none
  | .overlength .data | .overlength .ack | .overlength .nak | .overlength .busy => none
  | .noReply | .corrupt _ | .wrongStation | .collision | .sent => none

/-- The reply kind of the final reply, if any. -/
def Result.replyKind : Result → Option ReplyKind
  | .reply k _ _ _ => some k
  | .overlength k => some k
  | .noReply | .corrupt _ | .wrongStation | .collision | .sent => none

/-- The station report of a final result (R56 step 3). -/
def Result.report (r : Result) : Report :=
  { cls := r.cls
    kind := r.replyKind
    toggle := r.toggleChange
    identClass := match r with
      | .reply .ident _ _ c => some c
      | _ => none }

/-- How many of the reserved blocks form the reply chain (R28, R148). -/
def Result.keptBlocks (r : Result) (reserved : Nat) : Nat :=
  match r with
  | .reply _ len _ _ => blocksFor len.toNat
  | .overlength _ => reserved
  | .noReply | .corrupt _ | .wrongStation | .collision | .sent => 0

/-- The reply length of the record (R131): the kept length. -/
def Result.replyLength (r : Result) (reserved : Nat) : Option (BitVec 7) :=
  match r with
  | .reply _ len _ _ => some len
  | .overlength _ => some (BitVec.ofNat 7 (Config.blockBytes * reserved))
  | .noReply | .corrupt _ | .wrongStation | .collision | .sent => none

/-- The outcome a round ends with when no attempt is left: COLLISION when every attempt collided,
else the last failure (R49). -/
def Transaction.roundResult (t : Transaction) : Result :=
  match t.lastFailure with
  | none => .collision
  | some .noReply => .noReply
  | some (.corrupt c) => .corrupt c
  | some .wrongStation => .wrongStation

/-! ## The end of a transaction -/

/-- The completion record of a final result (R56 step 4, R130, R131). -/
def Transaction.finalRecord (t : Transaction) (tag : Word) (r : Result) (toggleSent : Bool)
    (chain : Chain) : Record :=
  { t.record tag (r.outcome toggleSent) t.cancel with
    cause := match r with
      | .corrupt c => some c
      | _ => none
    replyKind := r.replyKind
    replyLength := r.replyLength t.reservation.length
    chain := chain
    nakReason := match r with
      | .reply .nak _ _ v => some v
      | _ => none }

/-- A cycle item's reply chain: installed when the result is a well-formed DATA or IDENT and the
target was not DISABLED, else freed (R56 step 5, R149). -/
def State.cycleReply (s : State) (target : Option (Fin 32)) (disabled : Bool) (r : Result)
    (chain : Chain) : State :=
  match target, r with
  | some i, .reply .data len _ _ =>
    if disabled then s.freeChain chain else s.install i chain len .data
  | some i, .reply .ident len _ _ =>
    if disabled then s.freeChain chain else s.install i chain len .ident
  | _, _ => s.freeChain chain

/-- Steps 1 to 5 of the end of a transaction: payload, reservation, station report, then the record
of a request or the reply of a cycle item (R56). -/
def handOn (t : Transaction) (r : Result) (s : State) : State :=
  let kept := r.keptBlocks t.reservation.length
  let chain := t.reservation.take kept
  let s2 := (s.freeChain t.payload).freeChain (t.reservation.drop kept)
  let disabled := match t.target with
    | some i => decide ((s2.station i).state = .disabled)
    | none => false
  let s3 := match t.target with
    | some i => s2.stationReport i r.report
    | none => s2
  match t.origin with
  | .request tag => s3.post (t.finalRecord tag r s.le.attempt.toggle chain)
  | .pollSlot | .readSlot | .probe => s3.cycleReply t.target disabled r chain

/-- The end of a transaction (R56). -/
def endTransaction (t : Transaction) (r : Result) (s : State) : State := (handOn t r s).engineFree

/-! ## The retry decision and HOLDING -/

/-- The target can be sent no further attempt: a request's is DISABLED, a slot's is not ONLINE or
DEGRADED, a probe's is not PROBING or OFFLINE (R50). -/
def State.targetLost (s : State) (t : Transaction) : Bool :=
  match t.target with
  | none => false
  | some i =>
    match t.origin with
    | .request _ => decide ((s.station i).state = .disabled)
    | .pollSlot | .readSlot => !(s.station i).state.polled
    | .probe => !(s.station i).state.sought

/-- In HOLDING with a QUIET monitor: the target is checked and the next attempt opened (R50). -/
def nextAttempt (t : Transaction) (s : State) : State :=
  if s.targetLost t then endTransaction t t.roundResult s
  else startAttempt { t with attempts := t.attempts + 1 } s

/-- The engine keeps the transaction and enters HOLDING; the next attempt starts at once when the
monitor is QUIET already (R49, R50). -/
def enterHolding (t : Transaction) (s : State) : State :=
  let h := { s with le := { s.le with
    state := .holding, current := some t, attempt := Attempt.blank } }
  if s.li.monitor = .quiet then nextAttempt t h else h

/-- The retry decision (R49). -/
def retryDecision (t : Transaction) (s : State) : State :=
  if !t.cancel && decide (t.attempts.toNat < 1 + t.retryLimit.toNat) then enterHolding t s
  else endTransaction t t.roundResult s

/-! ## BUSY and the deferred list -/

/-- A name for a new deferred entry that no entry of the list has. -/
def freshId (l : List Deferred) : Fin 4 :=
  ((List.finRange 4).find? fun i => l.all fun d => decide (d.id ≠ i)).getD 0

/-- The transaction is deferred: the reservation is released, and it goes to the end of the deferred
list with the busy holdoff (R51). -/
def State.defer (s : State) (t : Transaction) : State :=
  let s1 := s.freeChain t.reservation
  let d : Deferred :=
    { id := freshId s1.le.deferred
      txn := { t with busyCount := t.busyCount + 1, reservation := [] }
      holdoff := s1.le.params.holdoff }
  ({ s1 with le := { s1.le with deferred := s1.le.deferred ++ [d] } } : State).engineFree

/-- The target's busy limit, read at each BUSY (R37). -/
def State.busyLimit (s : State) (t : Transaction) : Nat :=
  match t.target with
  | some i => (s.station i).busyLimit.toNat
  | none => 0

/-- The BUSY report, then the BUSY decision (R51). -/
def busyDecision (t : Transaction) (s : State) : State :=
  let s1 := match t.target with
    | some i => s.busyReport i
    | none => s
  if !t.cancel && decide (t.busyCount.toNat < s1.busyLimit t) && decide (s1.le.deferred.length < 4)
  then s1.defer t
  else endTransaction t (.reply .busy 0 false 0) s1

/-- An attempt of this transaction ends with a result (R48). -/
def attemptEnds (t : Transaction) (r : Result) (s : State) : State :=
  match r with
  | .noReply => retryDecision { t with lastFailure := some .noReply } s
  | .corrupt c => retryDecision { t with lastFailure := some (.corrupt c) } s
  | .wrongStation => retryDecision { t with lastFailure := some .wrongStation } s
  | .collision => retryDecision t s
  | .reply .busy _ _ _ => busyDecision t s
  | .reply .data _ _ _ | .reply .ack _ _ _ | .reply .nak _ _ _ | .reply .ident _ _ _ =>
    endTransaction t r s
  | .overlength _ | .sent => endTransaction t r s

/-- The attempt of the current transaction ends with a result. -/
def finishAttempt (r : Result) (s : State) : State :=
  match s.le.current with
  | some t => attemptEnds t r s
  | none => s

/-! ## Judging a reply (R25, R26, R30, R31) -/

/-- The reply kinds a command expects (R25). -/
def CommandKind.expects : CommandKind → ReplyKind → Bool
  | .poll, .data | .poll, .nak | .poll, .busy => true
  | .read, .data | .read, .nak | .read, .busy => true
  | .write, .ack | .write, .nak | .write, .busy => true
  | .probe, .ident => true
  | .poll, .ack | .poll, .ident | .read, .ack | .read, .ident => false
  | .write, .data | .write, .ident => false
  | .probe, .data | .probe, .ack | .probe, .nak | .probe, .busy => false
  | .bcast, _ | .timesync, _ => false

/-- The LENGTH values of a reply kind (R26). -/
def ReplyKind.allows (k : ReplyKind) (n : Nat) : Bool :=
  match k with
  | .data => decide (n ≤ 96)
  | .ack | .busy => decide (n = 0)
  | .nak => decide (1 ≤ n ∧ n ≤ 96)
  | .ident => decide (2 ≤ n ∧ n ≤ 96)

/-- The reply kind of a CONTROL byte that fits the command: direction 1, bits 6 and 7 at 0, a kind
the command expects, a LENGTH in the kind's range (R30 step 5). -/
def fittingKind (cmd : CommandKind) (control : Byte) (n : Nat) : Option ReplyKind :=
  if control.extractLsb' 5 3 = 1#3 then
    match replyKindOf (control.extractLsb' 0 4) with
    | some k => if cmd.expects k && k.allows n then some k else none
    | none => none
  else none

/-- The judgement of a reply frame that ran to its end, with its high CHECK byte (R30, R31). -/
def State.judge (s : State) (t : Transaction) (high : Byte) : Result :=
  let a := s.le.attempt
  let n := a.replyLength.toNat
  match a.markCause with
  | some c => .corrupt c
  | none =>
    if high ++ a.checkLow ≠ a.replyCheck then .corrupt .check
    else if a.replyAddress ≠ a.address then .wrongStation
    else
      match fittingKind t.kind a.replyControl n with
      | none => .corrupt .kind
      | some k =>
        if Config.blockBytes * t.reservation.length < n then .overlength k
        else
          .reply k (a.replyLength.setWidth 7) (a.replyControl.getLsbD 4)
            (s.fs.mem.chainByte t.reservation 0)

/-! ## Receiving a reply (R27 to R29, R43 to R45) -/

/-- The mark a character carries: framing counts before noise (R5, R27). -/
def LineChar.markCause (c : LineChar) : Option Cause :=
  if c.framing then some .framing else if c.noise then some .noise else none

/-- A mark-1 character in AWAITING is the ADDRESS of a reply: the window stops and the engine enters
RECEIVING (R43, R27). The gap timer starts at its report (R44). -/
def State.beginReceiving (s : State) (c : LineChar) : State :=
  let a := s.le.attempt
  { s with le := { s.le with
    state := .receiving
    attempt := { a with
      pending := false, window := none, windowOut := false
      gap := some (s.le.params.gap.toNat * Config.samplesPerChar)
      taken := 1, replyAddress := c.data, replyControl := 0, replyLength := 0
      replyCheck := checkFeed 0xFFFF#16 c.data, checkLow := 0, markCause := c.markCause } } }

/-- A mark-0 character of the reply frame is taken in its place: CONTROL, LENGTH, payload, low CHECK
byte, high CHECK byte (R27, R28, R29). -/
def State.takeReplyChar (s : State) (t : Transaction) (c : LineChar) : State :=
  let a0 := s.le.attempt
  let a := { a0 with
    pending := false
    gap := some (s.le.params.gap.toNat * Config.samplesPerChar)
    taken := a0.taken + 1
    markCause := a0.markCause.orElse fun _ => c.markCause }
  let n := a0.replyLength.toNat
  let withAttempt (x : Attempt) : State := { s with le := { s.le with attempt := x } }
  if a0.taken = 1 then
    withAttempt { a with replyControl := c.data, replyCheck := checkFeed a0.replyCheck c.data }
  else if a0.taken = 2 then
    if 96 < c.data.toNat then
      finishAttempt (.corrupt (a.markCause.getD .length)) (withAttempt { a with gap := none })
    else withAttempt { a with replyLength := c.data, replyCheck := checkFeed a0.replyCheck c.data }
  else if a0.taken < 3 + n then
    let w := withAttempt { a with replyCheck := checkFeed a0.replyCheck c.data }
    { w with fs := { w.fs with mem := w.fs.mem.storeAt t.reservation (a0.taken - 3) c.data } }
  else if a0.taken = 3 + n then withAttempt { a with checkLow := c.data }
  else
    let w := withAttempt { a with gap := none }
    finishAttempt (w.judge t c.data) w

end Sys2Proof.Machine
end

