-- ==== Sys2Proof/Machine/Arbiter.lean ====
section
/-! DEFINITION. The Line Arbiter (Chapter 6): when it acts, what it chooses, the station check, the
reservation and the dispatch. -/

namespace Sys2Proof.Machine

/-- The arbiter acts while the engine is IDLE, the monitor QUIET and the stop mark clear (R109). -/
def State.arbiterActs (s : State) : Bool :=
  decide (s.le.state = .idle) && decide (s.li.monitor = .quiet) && !s.le.stopMark

/-! ## The candidate (R110) -/

/-- What the arbiter may choose. A request comes with the rest of its queue. -/
inductive Candidate where
  | deferred (d : Deferred)
  | urgent (r : Request) (rest : List Request)
  | normal (r : Request) (rest : List Request)
  | offer (o : Offer)
deriving DecidableEq, Repr

/-- The oldest expired entry of the deferred list (R52). -/
def State.oldestExpired (s : State) : Option Deferred :=
  match s.le.expired with
  | [] => none
  | i :: _ => s.le.deferred.find? fun d => decide (d.id = i)

/-- The head of the normal queue. -/
def State.normalHead (s : State) : Option Candidate :=
  match s.ru.normal with
  | [] => none
  | r :: rest => some (.normal r rest)

/-- The normal share is not 0 and the poll run counter has reached it (R110, position 3). -/
def State.shareReached (s : State) : Bool :=
  decide (s.le.params.share ≠ 0) && decide (s.le.params.share.toNat ≤ s.pollRun.toNat)

/-- Positions 3 to 5 (R110). -/
def State.normalOrOffer (s : State) : Option Candidate :=
  if s.shareReached && s.normalHead.isSome then s.normalHead
  else
    match s.offer with
    | some o => some (.offer o)
    | none => s.normalHead

/-- The candidate the arbiter chooses: the first position that yields one (R110). -/
def State.candidate (s : State) : Option Candidate :=
  match s.oldestExpired, s.ru.urgent with
  | some d, _ => some (.deferred d)
  | none, r :: rest => some (.urgent r rest)
  | none, [] => s.normalOrOffer

/-! ## The station check (R113, R53) -/

/-- The table of R113: none passes. An UNCONFIGURED station, which no queued request can name (R81),
is not judged. -/
def stationCheck (k : CommandKind) (st : StationState) : Option ReqOutcome :=
  match st with
  | .unconfigured | .probing | .online | .degraded => none
  | .offline => if k = .probe then none else some .stationOffline
  | .mismatched => if k = .probe then none else some .stationMismatch
  | .disabled => some .stationDisabled

/-- The check of a kind against the station it names, if it names one. -/
def State.checkTarget (s : State) (k : CommandKind) (target : Option (Fin 32)) : Option ReqOutcome :=
  match target with
  | none => none
  | some i => stationCheck k (s.station i).state

/-- An entry leaves the deferred list, and the expiry order (R52). -/
def State.removeDeferred (s : State) (i : Fin 4) : State :=
  { s with
    le := { s.le with
      deferred := s.le.deferred.filter fun d => decide (d.id ≠ i)
      expired := s.le.expired.filter fun j => decide (j ≠ i) } }

/-- The target of a deferred cycle item is still ONLINE or DEGRADED (R53). -/
def State.stillPolled (s : State) (t : Transaction) : Bool :=
  match t.target with
  | none => true
  | some i => (s.station i).state.polled

/-- What the check leaves when it ends the candidate; none: it passes (R53, R113, R114). -/
def Candidate.turnedAway (c : Candidate) (s : State) : Option State :=
  match c with
  | .deferred d =>
    match d.txn.origin with
    | .request _ =>
      (s.checkTarget d.txn.kind d.txn.target).map fun o =>
        (s.removeDeferred d.id).endDeferred d.txn o false
    | .pollSlot | .readSlot =>
      if s.stillPolled d.txn then none else some (s.removeDeferred d.id)
    | .probe => none
  | .urgent r rest =>
    (s.checkTarget r.kind r.station).map fun o =>
      ({ s with ru := { s.ru with urgent := rest } } : State).endQueued r o false
  | .normal r rest =>
    (s.checkTarget r.kind r.station).map fun o =>
      ({ s with ru := { s.ru with normal := rest } } : State).endQueued r o false
  | .offer _ => none

/-! ## The reservation (R115, R116) -/

/-- The blocks needed: none without a target, else the override or the station's reply blocks. -/
def State.blocksNeeded (s : State) (target : Option (Fin 32)) (override : Option (BitVec 2)) : Nat :=
  match target, override with
  | none, _ => 0
  | some _, some b => b.toNat
  | some i, none => (s.station i).replyBlocks.toNat

/-- The station an offer names. -/
def Offer.station : Offer → Fin 32
  | .slot x => x.station
  | .probe i => i

/-- The reply reservation a candidate needs (R115). -/
def Candidate.need (c : Candidate) (s : State) : Nat :=
  match c with
  | .deferred d => s.blocksNeeded d.txn.target d.txn.blocksOverride
  | .urgent r _ | .normal r _ => s.blocksNeeded r.station r.blocks
  | .offer o => s.blocksNeeded (some o.station) none

/-! ## Dispatch (R118) -/

/-- The retry limit: the override, else the station's, else 0 (R37). -/
def State.retryLimitFor (s : State) (target : Option (Fin 32)) (override : Option (BitVec 3)) :
    BitVec 3 :=
  match override, target with
  | some n, _ => n
  | none, some i => (s.station i).retryLimit
  | none, none => 0

/-- The transaction of a request (R118 step 4). -/
def State.requestTransaction (s : State) (r : Request) (reservation : Chain) : Transaction :=
  { origin := .request r.tag, target := r.station, kind := r.kind, payload := r.payload,
    length := r.length, selector := 0, blocksOverride := r.blocks, reservation := reservation,
    retryLimit := s.retryLimitFor r.station r.retry, attempts := 1, busyCount := 0,
    lastFailure := none, cancel := false }

/-- The origin of a cycle item. -/
def Offer.origin : Offer → Origin
  | .slot x =>
    match x.kind with
    | .poll => .pollSlot
    | .read => .readSlot
  | .probe _ => .probe

/-- The command kind of a cycle item (R99, R100). -/
def Offer.kind : Offer → CommandKind
  | .slot x =>
    match x.kind with
    | .poll => .poll
    | .read => .read
  | .probe _ => .probe

/-- The selector byte a cycle item carries (R99). -/
def Offer.selector : Offer → Byte
  | .slot x => x.selector
  | .probe _ => 0

/-- The transaction of a cycle item (R99, R100, R118 step 4). -/
def State.offerTransaction (s : State) (o : Offer) (reservation : Chain) : Transaction :=
  { origin := o.origin, target := some o.station, kind := o.kind, payload := [], length := 0,
    selector := o.selector, blocksOverride := none, reservation := reservation,
    retryLimit := s.retryLimitFor (some o.station) none, attempts := 1, busyCount := 0,
    lastFailure := none, cancel := false }

/-- The transaction of a candidate. A deferred one begins a new round and keeps its busy count, its
payload and the rest of its fields (R53). -/
def Candidate.transaction (c : Candidate) (s : State) (reservation : Chain) : Transaction :=
  match c with
  | .deferred d => { d.txn with reservation := reservation, attempts := 1, lastFailure := none }
  | .urgent r _ | .normal r _ => s.requestTransaction r reservation
  | .offer o => s.offerTransaction o reservation

/-- The candidate leaves its source (R118 step 2). -/
def Candidate.leaveSource (c : Candidate) (s : State) : State :=
  match c with
  | .deferred d => s.removeDeferred d.id
  | .urgent _ rest => { s with ru := { s.ru with urgent := rest } }
  | .normal _ rest => { s with ru := { s.ru with normal := rest } }
  | .offer o => s.takeOffer o

/-- The poll run counter after a dispatch (R112). -/
def Candidate.pollRunAfter (c : Candidate) (n : BitVec 4) : BitVec 4 :=
  match c with
  | .deferred _ | .urgent _ _ => n
  | .normal _ _ => 0
  | .offer _ => if n = 15 then 15 else n + 1

/-- The dispatch of a candidate whose blocks have been taken (R118, R38). -/
def dispatch (c : Candidate) (reservation : Chain) (s : State) : State :=
  let t := c.transaction s reservation
  let s1 := c.leaveSource s
  startAttempt t { s1 with pollRun := c.pollRunAfter s1.pollRun }

/-! ## Choosing -/

/-- The arbiter chooses, and chooses again at once after each request or item its check ends, until
it dispatches, waits or has no candidate (R109 to R118). Each turn that is not the last takes one
entry out of a queue or the deferred list, so their lengths bound the turns. -/
def State.arbitrate (fuel : Nat) (s : State) : State :=
  match fuel with
  | 0 => s
  | k + 1 =>
    if s.arbiterActs then
      match s.candidate with
      | none => s
      | some c =>
        match c.turnedAway s with
        | some t => t.arbitrate k
        | none =>
          match s.allocate (c.need s) with
          | some (chain, t) => dispatch c chain t
          | none => s
    else s

/-- The turns that `arbitrate` may need. -/
def State.turns (s : State) : Nat :=
  s.ru.urgent.length + s.ru.normal.length + s.le.deferred.length + 1

/-- What follows, in the same moment, every change that can alter the choice: the Cycle Unit forms
its offer again and the arbiter chooses again (R98, R100, R109). -/
def State.settle (s : State) : State :=
  let t := s.formOffer
  t.arbitrate t.turns

/-- BUFFER_WAIT: the arbiter acts on a candidate that passes its check and whose reservation the free
list cannot meet (R117). -/
def State.bufferWait (s : State) : Bool :=
  s.arbiterActs &&
    match s.candidate with
    | none => false
    | some c => (c.turnedAway s).isNone && decide (s.freeCount < c.need s)

end Sys2Proof.Machine
end

