-- ==== Sys2Proof/Machine/LineEvents.lean ====
section
/-! DEFINITION. The reports of the Line Interface and the expiries of the line timers, each with all
that follows from it in the same moment (Chapters 1 and 3). Each operation here is the whole effect
of the event; the sample clock (Clock) and the rows of the table (LineRows) both call it. -/

namespace Sys2Proof.Machine

/-! ## Reports of the receiver -/

/-- The engine states in which a confirmed start is not foreign traffic (R15). -/
def EngineState.listens : EngineState → Bool
  | .sending | .awaiting | .receiving => true
  | .stopped | .idle | .holding | .turnaround | .breaking => false

/-- What the engine makes of a start report: the character is pending; in RECEIVING the gap timer
stops (R40, R43, R44). -/
def State.startTaken (s : State) : State :=
  let a := s.le.attempt
  match s.le.state with
  | .sending | .awaiting => { s with le := { s.le with attempt := { a with pending := true } } }
  | .receiving =>
    { s with le := { s.le with attempt := { a with pending := true, gap := none } } }
  | .stopped | .idle | .holding | .turnaround | .breaking => s

/-- A start is confirmed at sample 9: the receiver enters ASSEMBLING, and the start is either foreign
traffic or taken by the engine (R3, R15). DESIGN CHOICE: a start confirmed in BREAKING, while the break
still waits for the release bit of earlier work, is foreign too and raises LINE_CONTENTION (log 22). -/
def startReport (h : Shift) (s : State) : State :=
  let foreign := !s.le.state.listens
  let t := { s with li := { s.li with rx := .assembling 9 h foreign } }
  if foreign then t.raiseIf (decide (s.le.state ≠ .stopped)) .lineContention else t.startTaken

/-- The reply window runs out. While a character is pending the expiry waits for it; otherwise the
attempt ends NO_REPLY, or CORRUPT STRAY when the stray mark is set (R43). -/
def expireWindow (s : State) : State :=
  let a := s.le.attempt
  if a.pending then
    { s with le := { s.le with attempt := { a with window := none, windowOut := true } } }
  else finishAttempt (if a.stray then .corrupt .stray else .noReply) s

/-- A mark-0 character in AWAITING: it sets the stray mark, and an expiry that waited is taken now
(R43). -/
def strayChar (s : State) : State :=
  let a := s.le.attempt
  let t := { s with le := { s.le with attempt := { a with stray := true, pending := false } } }
  if a.windowOut then expireWindow t else t

/-- What the engine makes of a character report that is not foreign (R27, R43 to R45). -/
def charTaken (c : LineChar) (s : State) : State :=
  match s.le.state with
  | .awaiting => if c.mark then s.beginReceiving c else strayChar s
  | .receiving =>
    if c.mark then finishAttempt (.corrupt .truncated) (s.raise .lineContention)
    else
      match s.le.current with
      | some t => s.takeReplyChar t c
      | none => s
  | .sending =>
    { s with le := { s.le with attempt := { s.le.attempt with pending := false } } }
  | .stopped | .idle | .holding | .turnaround | .breaking => s

/-- The character qualifies as a break candidate (R6). -/
def LineChar.breakCandidate (c : LineChar) : Bool :=
  decide (c.data = 0) && !c.mark && c.framing

/-- The receiver after a character report: HUNTING, with this candidate edge if any, or HELD_LOW after a
framing mark, with the break count armed for a break candidate (R3, R5, R6). -/
def LineChar.nextRx (c : LineChar) (edge : Option (Nat × Shift)) : Rx :=
  if c.framing then .heldLow 169 [] c.breakCandidate else .hunting edge

/-- A character report at sample 169, which may itself be the candidate edge of a next start (R3,
log 21); the engine does not take a foreign one (R5, R15). A character finished at an old divisor (R2) is over with its report: HELD_LOW after it counts its positions at the new
rate. DESIGN CHOICE (log 19). -/
def characterReport (c : LineChar) (foreign : Bool) (edge : Option (Nat × Shift)) (s : State) : State :=
  let t := { s with li := { s.li with rx := c.nextRx edge, oldRate := none } }
  (if foreign then t else charTaken c t).settle

/-- A break report: the count is disarmed, BREAK_SEEN is raised, and an attempt in AWAITING or
RECEIVING ends CORRUPT FRAMING (R7, R46). -/
def breakReport (s : State) : State :=
  let t := ({ s with li := { s.li with rx := .heldLow 345 [] false } } : State).raise .breakSeen
  match s.le.state with
  | .awaiting | .receiving => (finishAttempt (.corrupt .framing) t).settle
  | .stopped | .idle | .holding | .turnaround | .sending | .breaking => t

/-- HELD_LOW ends at a position decided high (R6). -/
def heldLowEnd (s : State) : State := { s with li := { s.li with rx := .hunting none } }

/-! ## Reports of the transmitter -/

/-- The echo agrees with the character sent (R40). -/
def LineChar.agrees (e : LineChar) (c : TxChar) : Bool :=
  decide (e.data = c.data) && decide (e.mark = c.mark) && !e.framing && !e.noise

/-- The kinds that open no reply window (R25). -/
def CommandKind.broadcast : CommandKind → Bool
  | .bcast | .timesync => true
  | .poll | .read | .write | .probe => false

/-- The answer to an agreeing echo: the next character, or nothing after the last one, which ends a
broadcast (R40, R42). -/
def echoAgreed (t : Transaction) (s : State) : State :=
  match s.frameByte t s.le.attempt.sent with
  | some _ => s.supplyNext t
  | none => if t.kind.broadcast then finishAttempt .sent s else s

/-- What the engine makes of an echo (R40, R41, R42). -/
def echoTaken (c : TxChar) (e : LineChar) (s : State) : State :=
  match s.le.state, s.le.current with
  | .sending, some t =>
    if e.agrees c then echoAgreed t s
    else finishAttempt .collision (s.raise .lineContention)
  | _, _ => s

/-- The echo report of the character in progress, at sample 169 (R9, R10). -/
def echoReport (c : TxChar) (e : LineChar) (s : State) : State :=
  (echoTaken c e { s with li := { s.li with tx := .sending c 169 (some e.framing) } }).settle

/-- The released report in SENDING opens the reply window (R42, R43). -/
def State.openWindow (s : State) : State :=
  if s.le.state = .sending then
    { s with le := { s.le with
      state := .awaiting
      attempt := { s.le.attempt with
        window := some (s.le.params.window.toNat * Config.samplesPerChar) } } }
  else s

/-- The end of the release bit: the driver is released, or stays enabled for a break that waited, and
the released report is made (R11, R13, R36). -/
def releasedReport (s : State) : State :=
  let l := if s.li.breakWaiting then s.li.breakBegins s.pins.clock else { s.li with tx := .released }
  ({ s with li := l } : State).openWindow

/-- The low period of a break ends: the output goes high, and every toggle is set to 0 (R13, R34). -/
def breakLowEnd (s : State) : State :=
  ({ s with li := { s.li with tx := .breakHigh 0 } } : State).clearToggles

/-- The engine leaves BREAKING at the break-done report: for STOPPED when the stop mark is set or the
break was ordered there, else for IDLE (R60, R62). -/
def State.leaveBreaking (s : State) : State :=
  if s.le.state = .breaking then
    if s.le.stopMark || s.le.breakFromStopped then s.enterStopped
    else { s with le := { s.le with state := .idle } }
  else s

/-- The end of the high bit time after a break. A break that waited begins its low period, and the
report of the earlier one has no effect on the engine; otherwise the driver is released and the
receiver aligns itself to the moment the output went high, 16 samples ago (R13, R36, R62). -/
def breakDoneReport (s : State) : State :=
  if s.li.breakWaiting then { s with li := s.li.breakBegins s.pins.clock }
  else
    ({ s with li := { s.li with tx := .released, rx := .heldLow 16 [] false } }
      : State).leaveBreaking.settle

/-! ## The quiet monitor and the gap timer -/

/-- The monitor's report of QUIET: a HOLDING engine goes on with its next attempt, and an arbiter
that may act chooses (R14, R50, R109). -/
def quietReport (s : State) : State :=
  let t := { s with li := { s.li with monitor := .quiet } }
  (match t.le.state, t.le.current with
    | .holding, some x => nextAttempt x t
    | _, _ => t).settle

/-- The reply window's expiry with all that follows (R43). -/
def windowExpiry (s : State) : State := (expireWindow s).settle

/-- The gap timer's expiry with all that follows (R44). -/
def gapExpiry (s : State) : State := (finishAttempt (.corrupt .gap) s).settle

end Sys2Proof.Machine
end

