-- ==== Sys2Proof/Machine/Clock.lean ====
section
/-! DEFINITION. Counted time: the tick with its timers (R52, R102 to R104, R163), the sample clock
(R2 to R14, R43, R44) and one period of the reference clock. -/

namespace Sys2Proof.Machine

/-! ## The tick -/

/-- A holdoff above 0 counts down by one (R52). -/
def Deferred.countDown (d : Deferred) : Deferred :=
  if d.holdoff = 0 then d else { d with holdoff := d.holdoff - 1 }

/-- Every holdoff counts down; the entries that reach 0 expire in list order (R52). -/
def State.countHoldoffs (s : State) : State :=
  { s with
    le := { s.le with
      deferred := s.le.deferred.map Deferred.countDown
      expired := s.le.expired ++
        (s.le.deferred.filter fun d => decide (d.holdoff = 1)).map Deferred.id } }

/-- The tick's effect on the deferred list, with all that follows. -/
def holdoffTick (s : State) : State := s.countHoldoffs.settle

/-- The tick's effect on the Cycle Unit, with all that follows. -/
def cycleTick (s : State) : State := s.tickCycle.settle

/-- The tick lets a holdoff expire. -/
def State.holdoffDue (s : State) : Bool := s.le.deferred.any fun d => decide (d.holdoff = 1)

/-- The tick lets the period expire, or starts the cycle of a unit that waits for it. -/
def State.cycleDue (s : State) : Bool :=
  match s.cu.timer with
  | some n => decide (n.toNat ≤ 1)
  | none => decide (s.cu.state = .waiting)

/-- A tick: the prescaler starts again, the counter counts, and the tick is handed to the timers as
they stand at that moment (R163): a timer that the tick itself loads, or a wait for the next tick that
it brings about, takes no part in it (R102, R104). Which of an expiring holdoff and a starting or
overrun cycle comes first is free (log 8). -/
def tick (s : State) : State :=
  let t := { s with tb := { s.tb with prescaler := 0, counter := s.tb.counter + 1 } }
  if t.holdoffDue && t.cycleDue then
    let (holdoffFirst, u) := t.choose
    if holdoffFirst then cycleTick (holdoffTick u) else holdoffTick (cycleTick u)
  else holdoffTick (cycleTick t)

/-! ## The receive input -/

/-- What the part's own driver, or the bias, leaves on the line (introduction of Chapter 1). -/
def LineInterface.ownLevel (l : LineInterface) : Bool := if l.lde then l.ltx else true

/-- LRX, the line receive input: another active driver's level, else the part's own. DESIGN CHOICE for
two active drivers (log 7). -/
def State.lrx (s : State) : Bool :=
  match s.lineIn with
  | [] => s.li.ownLevel
  | r :: _ => r.level.getD s.li.ownLevel

/-- One period of what the other drivers do passes. -/
def nextLine : List LineRun → List LineRun
  | [] => []
  | r :: rest => if r.periods = 0 then rest else { r with periods := r.periods - 1 } :: rest

/-! ## The transmitter at a sample -/

/-- The driver is enabled for a break (R13). -/
def Tx.breaking : Tx → Bool
  | .breakLow _ | .breakHigh _ => true
  | .released | .turnaround _ | .sending _ _ _ | .releaseBit _ => false

/-- The samples of an echo, taken on the transmitter's count (R10). -/
def Rx.echoShift : Rx → Shift
  | .echoing h => h
  | .hunting _ | .assembling _ _ _ | .heldLow _ _ _ => Shift.fresh

/-- The character in progress reaches its next sample, numbered `n` (R9, R10): the echo is handed over
at 169 and the stop bit ends at 176. -/
def sendingSample (c : TxChar) (n : Nat) (echoed : Option Bool) (level : Bool) (s : State) : State :=
  if Config.samplesPerChar ≤ n then { s with li := s.li.endStopBit (echoed.getD false) }
  else
    let h := (s.li.rx.echoShift.sample n level).1
    let t := { s with li := { s.li with tx := .sending c n echoed, rx := .echoing h } }
    if n = 169 then echoReport c h.echo t else t

/-- The transmitter reaches its next sample (R8 to R13). An order given between two sample clocks counts
as sample 0 of what it begins, so the next sample clock takes sample 1. DESIGN CHOICE (log 18). -/
def txSample (level : Bool) (s : State) : State :=
  match s.li.tx with
  | .released => s
  | .turnaround n => ({ s with li := { s.li with tx := .turnaround (n - 1) } } : State).startIfElapsed
  | .sending c n echoed => sendingSample c (n + 1) echoed level s
  | .releaseBit n =>
    if Config.samplesPerBit ≤ n + 1 then releasedReport s
    else { s with li := { s.li with tx := .releaseBit (n + 1) } }
  | .breakLow n =>
    if s.le.params.breakLength.toNat * Config.samplesPerChar ≤ n + 1 then breakLowEnd s
    else { s with li := { s.li with tx := .breakLow (n + 1) } }
  | .breakHigh n =>
    if Config.samplesPerBit ≤ n + 1 then breakDoneReport s
    else { s with li := { s.li with tx := .breakHigh (n + 1) } }

/-! ## The receiver at a sample -/

/-- The candidate start edge at its sample `n`: at the ninth it is confirmed or a false start. The
receiver is in HUNTING again at once, so the ninth sample of a false start, low after the high one before
it, is a new candidate edge (R3, log 21). -/
def candidateSample (n : Nat) (h : Shift) (before level : Bool) (s : State) : State :=
  match h.sample n level with
  | (g, none) => { s with li := { s.li with rx := .hunting (some (n, g)) } }
  | (_, some true) => { s with li := { s.li with rx := .hunting (edgeAt before level) } }
  | (g, some false) => startReport g s

/-- The character in assembly at its sample `n` (R4, R5). Without a framing mark the receiver is in
HUNTING at once, and sample 169, low after a high one, is a new candidate edge (R3, log 21). -/
def assemblingSample (n : Nat) (h : Shift) (foreign before level : Bool) (s : State) : State :=
  let g := (h.sample n level).1
  if n = 169 then characterReport g.report foreign (edgeAt before level) s
  else { s with li := { s.li with rx := .assembling n g foreign } }

/-- HELD_LOW at its sample `n`: a position decided high ends it, the low positions of an armed count
end in a break report at 345 (R6, R7). A low sample that decides a position high is no candidate edge, nor
is a low one after it (R3, log 21). -/
def heldLowSample (n : Nat) (votes : List Bool) (armed level : Bool) (s : State) : State :=
  let v := votesWith n level votes
  if n % 16 = 9 then
    if majority v then heldLowEnd s
    else if armed && decide (n = 345) then breakReport s
    else { s with li := { s.li with rx := .heldLow n [] armed } }
  else { s with li := { s.li with rx := .heldLow n v armed } }

/-- The receiver takes a sample (R3 to R7). ECHOING samples with the transmitter, and while the driver
is enabled for a break no position is decided (R10, R13). -/
def rxSample (level : Bool) (s : State) : State :=
  let t := { s with li := { s.li with lastSample := level } }
  match s.li.rx with
  | .hunting none => { t with li := { t.li with rx := .hunting (edgeAt s.li.lastSample level) } }
  | .hunting (some (n, h)) => candidateSample (n + 1) h s.li.lastSample level t
  | .assembling n h foreign => assemblingSample (n + 1) h foreign s.li.lastSample level t
  | .heldLow n votes armed =>
    if s.li.tx.breaking then t else heldLowSample (n + 1) votes armed level t
  | .echoing _ => t

/-- The receiver has just taken a new alignment from the transmitter, and this sample is its sample 0:
HELD_LOW entered at the end of an echoed stop bit or of a break. DEDUCED (log 4). -/
def justAligned (before after : LineInterface) : Bool :=
  match after.rx with
  | .heldLow _ _ _ =>
    match before.tx with
    | .sending _ _ _ | .breakLow _ | .breakHigh _ | .releaseBit _ => after.tx != before.tx &&
        after.rx != before.rx
    | .released | .turnaround _ => false
  | .hunting _ | .assembling _ _ _ | .echoing _ => false

/-! ## The line timers at a sample -/

/-- The reply window and the gap timer count down (R43, R44). -/
def State.countLineTimers (s : State) : State :=
  let a := s.le.attempt
  { s with le := { s.le with
    attempt := { a with window := a.window.map (· - 1), gap := a.gap.map (· - 1) } } }

/-- A line timer has reached 0. -/
def State.lineTimerDue (s : State) : Bool :=
  decide (s.le.attempt.window = some 0) || decide (s.le.attempt.gap = some 0)

/-- The expiry of a line timer that has reached 0 (R43, R44). -/
def expireLineTimers (s : State) : State :=
  match s.le.state with
  | .awaiting => if s.le.attempt.window = some 0 then windowExpiry s else s
  | .receiving => if s.le.attempt.gap = some 0 then gapExpiry s else s
  | .stopped | .idle | .holding | .turnaround | .sending | .breaking => s

/-- This sample may bring a start report or a break report, which either may precede or follow an
expiry (R43, R44, R46). -/
def Rx.mayReport : Rx → Bool
  | .hunting (some (8, _)) => true
  | .heldLow 344 _ armed => armed
  | .hunting _ | .assembling _ _ _ | .heldLow _ _ _ | .echoing _ => false

/-- The transmitter takes the receiver out of its state at this sample: the turnaround elapses (R8), or
the low period of a waiting break begins at the end of the release bit (R13). At the end of a high bit
time the receiver makes no report anyway (R13). -/
def LineInterface.takesReceiver (l : LineInterface) : Bool :=
  match l.tx with
  | .turnaround n => decide (n ≤ 1)
  | .releaseBit n => l.breakWaiting && decide (Config.samplesPerBit ≤ n + 1)
  | .released | .sending _ _ _ | .breakLow _ | .breakHigh _ => false

/-- This sample may bring a report of the receiver: a start, a character or a break. -/
def Rx.reportDue : Rx → Bool
  | .assembling n _ _ => decide (n = 168)
  | r => r.mayReport

/-- The receiver and an expiry at one sample, in the order the free value gives when they fall
together (log 8). -/
def receiveAndExpire (level : Bool) (s : State) : State :=
  if s.lineTimerDue && s.li.rx.mayReport then
    let (expiryFirst, t) := s.choose
    if expiryFirst then rxSample level (expireLineTimers t)
    else expireLineTimers (rxSample level t)
  else expireLineTimers (rxSample level s)

/-! ## The quiet monitor at a sample -/

/-- A low level that makes a QUIET monitor ACTIVE at the sample of an expiry: whether the next attempt
of R50, or a choice of the arbiter, comes before it is free (R119, log 8). -/
def lowBeforeExpiry (level : Bool) (s : State) : State :=
  if !level && s.lineTimerDue && decide (s.li.monitor = .quiet) then
    let (lowFirst, t) := s.choose
    if lowFirst then { t with li := t.li.goActive } else t
  else s

/-- The quiet timer at a sample: reset by a low level or an enabled driver, else counted up, with the
report of QUIET when it reaches the interval (R14). -/
def quietSample (level driven : Bool) (s : State) : State :=
  if !level || driven || s.li.lde then { s with li := s.li.goActive }
  else
    let n := s.li.quietTimer + 1
    let t := { s with li := { s.li with quietTimer := n } }
    if s.li.monitor = .active ∧ s.le.params.quietSamples ≤ n then quietReport t else t

/-! ## The sample clock and the reference clock -/

/-- One sample of the line with the receiver on its own divider (R2). -/
def sampleWithoutRx (level : Bool) (s : State) : State :=
  quietSample level s.li.lde
    (expireLineTimers (txSample level (lowBeforeExpiry level s.countLineTimers)))

/-- The transmitter, then the receiver, at one sample (R2). -/
def txThenRx (level : Bool) (s : State) : State :=
  let t := txSample level s
  if justAligned s.li t.li then expireLineTimers { t with li := { t.li with lastSample := level } }
  else receiveAndExpire level t

/-- The receiver and the transmitter at one sample. Where the turnaround elapses, or the low period of a
waiting break begins, at a sample that may bring a report, the spec does not say whether the report comes
first, or the receiver leaves its state before it and makes none: it is free (log 8). -/
def lineSample (level : Bool) (s : State) : State :=
  if s.li.takesReceiver && s.li.rx.reportDue then
    let (reportFirst, t) := s.choose
    if reportFirst then txSample level (receiveAndExpire level t) else txThenRx level t
  else txThenRx level s

/-- One sample of the line (R2). -/
def sampleWithRx (level : Bool) (s : State) : State :=
  quietSample level s.li.lde (lineSample level (lowBeforeExpiry level s.countLineTimers))

/-- The receiver's own divider counts while it finishes a character at an old divisor (R2). Its sample
comes after the new divider's sample of the same period. DESIGN CHOICE (log 19). -/
def oldRateSample (level : Bool) (r : OldRate) (s : State) : State :=
  if r.left = 0 then
    rxSample level { s with li := { s.li with oldRate := some { r with left := r.divisor } } }
  else { s with li := { s.li with oldRate := some { r with left := r.left - 1 } } }

/-- The sample-rate divider counts one period; a sample is taken every D + 1 periods (R2). -/
def samplePeriod (s : State) : State :=
  let level := s.lrx
  let s1 :=
    if s.li.sampleLeft = 0 then
      let t := { s with li := { s.li with sampleLeft := s.le.params.divisor.toNat } }
      if s.li.oldRate.isSome then sampleWithoutRx level t else sampleWithRx level t
    else { s with li := { s.li with sampleLeft := s.li.sampleLeft - 1 } }
  match s1.li.oldRate with
  | some r => oldRateSample level r s1
  | none => s1

/-- The prescaler counts one period, and a tick occurs at the 1,600th (R163). -/
def tickPeriod (s : State) : State :=
  if Config.periodsPerTick ≤ s.tb.prescaler + 1 then tick s
  else { s with tb := { s.tb with prescaler := s.tb.prescaler + 1 } }

/-- One period of the reference clock. A tick and a sample that fall together are taken in the order
the free value gives (log 8). While the clock stands or RESET is asserted nothing counts
(R173, R190, R192). -/
def refClock (s : State) : State :=
  if s.timeRuns then
    let together := decide (s.li.sampleLeft = 0) &&
      decide (Config.periodsPerTick ≤ s.tb.prescaler + 1)
    let t :=
      if together then
        let (tickFirst, u) := s.choose
        if tickFirst then samplePeriod (tickPeriod u) else tickPeriod (samplePeriod u)
      else tickPeriod (samplePeriod s)
    { t with lineIn := nextLine t.lineIn }
  else s

end Sys2Proof.Machine
end

