-- ==== Sys2Proof/Machine/LineRows.lean ====
section
/-! DEFINITION. The rows of the table that are reports of the Line Interface or expiries of the line
timers (R3 to R15, R34, R43, R44). A row stands for the time that passes until its event: what the
event itself fixes is set, and counters it says nothing of are left. Where the cause of the event is
not there, the event cannot come and nothing changes (log 2). -/

namespace Sys2Proof.Machine

/-- QUIET_REPORT: the quiet timer reaches the interval while the driver is released (R14). -/
def quietEvent (s : State) : State :=
  if s.li.monitor = .active ∧ s.li.lde = false then
    quietReport { s with li := { s.li with quietTimer := s.le.params.quietSamples } }
  else s

/-- ACTIVE_REPORT: a QUIET monitor becomes ACTIVE (R14). -/
def activeEvent (s : State) : State :=
  if s.li.monitor = .quiet then { s with li := s.li.goActive } else s

/-- REPLY_WINDOW_EXPIRY (R43). -/
def windowEvent (s : State) : State :=
  if s.le.state = .awaiting ∧ s.le.attempt.window.isSome then windowExpiry s else s

/-- GAP_EXPIRY (R44). -/
def gapEvent (s : State) : State :=
  if s.le.state = .receiving ∧ s.le.attempt.gap.isSome then gapExpiry s else s

/-- START_REPORT: the start bit, decided low from samples 7 to 9, has made the monitor ACTIVE
(R3, R14, R15). -/
def startEvent (noise : Bool) (s : State) : State :=
  let l := s.li.pastLastStopBit
  match l.rx with
  | .hunting _ =>
    startReport { votes := [], bits := [false], noise := noise }
      { s with li := { l.goActive with lastSample := false } }
  | .assembling _ _ _ | .heldLow _ _ _ | .echoing _ => s

/-- CHARACTER_REPORT: the report of the character in assembly; a start bit with samples that disagreed
has set its noise mark already (R3, R5). -/
def characterEvent (c : LineChar) (s : State) : State :=
  match s.li.rx with
  | .assembling _ h foreign =>
    characterReport { c with noise := c.noise || h.noise } foreign none
      { s with li := { s.li with lastSample := !c.framing } }
  | .hunting _ | .heldLow _ _ _ | .echoing _ => s

/-- BREAK_REPORT: an armed count sees positions 11 to 21 low (R7). -/
def breakEvent (s : State) : State :=
  match s.li.rx with
  | .heldLow _ _ true => breakReport { s with li := { s.li with lastSample := false } }
  | .heldLow _ _ false | .hunting _ | .assembling _ _ _ | .echoing _ => s

/-- FIRST_START_REPORT: the turnaround has elapsed (R8). -/
def firstStartEvent (s : State) : State :=
  match s.li.tx, s.li.supplied with
  | .turnaround _, some c => firstStart c s
  | _, _ => s

/-- ECHO_REPORT: the echo of the character in progress, or of the supplied one that follows it when the
former's echo has been handed over (R9, R10). -/
def echoEvent (e : LineChar) (s : State) : State :=
  match s.li.tx, s.li.supplied with
  | .sending c _ none, _ => echoReport c e s
  | .sending _ _ (some _), some c => echoReport c e { s with li := s.li.beginChar c }
  | _, _ => s

/-- RELEASED_REPORT: the last stop bit and the release bit are over (R11, R12). -/
def releasedEvent (s : State) : State :=
  let l := s.li.pastLastStopBit
  match l.tx with
  | .releaseBit _ => releasedReport { s with li := l }
  | .released | .turnaround _ | .sending _ _ _ | .breakLow _ | .breakHigh _ => s

/-- BREAK_LOW_END: the break length has elapsed (R13, R34). -/
def breakLowEvent (s : State) : State :=
  match s.li.tx with
  | .breakLow _ => breakLowEnd s
  | .released | .turnaround _ | .sending _ _ _ | .releaseBit _ | .breakHigh _ => s

/-- BREAK_DONE_REPORT: the high bit time after a break is over (R13). -/
def breakDoneEvent (s : State) : State :=
  match s.li.tx with
  | .breakHigh _ => breakDoneReport s
  | .released | .turnaround _ | .sending _ _ _ | .releaseBit _ | .breakLow _ => s

/-- HELD_LOW_END: a position is decided high, which never happens while the driver is enabled for a
break (R6, R13). -/
def heldLowEvent (s : State) : State :=
  let l := s.li.pastLastStopBit
  match l.rx with
  | .heldLow _ _ _ =>
    if l.tx.breaking then s
    else heldLowEnd { s with li := { l with lastSample := true } }
  | .hunting _ | .assembling _ _ _ | .echoing _ => s

/-! ## The rows -/

/-- QUIET_REPORT (R14). -/
def execQuietReport (s : State) : StepOutcome := .next (timed quietEvent s)

/-- ACTIVE_REPORT (R14). -/
def execActiveReport (s : State) : StepOutcome := .next (timed activeEvent s)

/-- REPLY_WINDOW_EXPIRY (R43). -/
def execReplyWindowExpiry (s : State) : StepOutcome := .next (timed windowEvent s)

/-- GAP_EXPIRY (R44). -/
def execGapExpiry (s : State) : StepOutcome := .next (timed gapEvent s)

/-- START_REPORT (R3). -/
def execStartReport (noise : Bool) (s : State) : StepOutcome := .next (timed (startEvent noise) s)

/-- CHARACTER_REPORT (R5). -/
def execCharacterReport (data : Byte) (mark noise framing : Bool) (s : State) : StepOutcome :=
  .next (timed
    (characterEvent { data := data, mark := mark, noise := noise, framing := framing }) s)

/-- BREAK_REPORT (R7). -/
def execBreakReport (s : State) : StepOutcome := .next (timed breakEvent s)

/-- FIRST_START_REPORT (R8). -/
def execFirstStartReport (s : State) : StepOutcome := .next (timed firstStartEvent s)

/-- ECHO_REPORT (R10). -/
def execEchoReport (data : Byte) (mark noise framing : Bool) (s : State) : StepOutcome :=
  .next (timed (echoEvent { data := data, mark := mark, noise := noise, framing := framing }) s)

/-- RELEASED_REPORT (R11). -/
def execReleasedReport (s : State) : StepOutcome := .next (timed releasedEvent s)

/-- BREAK_LOW_END (R34). -/
def execBreakLowEnd (s : State) : StepOutcome := .next (timed breakLowEvent s)

/-- BREAK_DONE_REPORT (R13). -/
def execBreakDoneReport (s : State) : StepOutcome := .next (timed breakDoneEvent s)

/-- HELD_LOW_END (R6). -/
def execHeldLowEnd (s : State) : StepOutcome := .next (timed heldLowEvent s)

end Sys2Proof.Machine
end

