-- ==== Sys2Proof/Machine/Flags.lean ====
section
/-! DEFINITION. The Event Unit's computations: which events contribute to an output, the pending
level and the pending event (R171, R172). They take the twelve events' state as one word: a latch
for an occurrence, the present truth for a condition. -/

namespace Sys2Proof.Machine

/-- The positions of the nine occurrences in EV_LATCH; E1, E2 and E8 are conditions (R168). -/
def occurrenceMask : BitVec 12 := 0xEF9#12

/-- An event contributes to an output: routed to it with a level above 0, enabled, and latched or
true (section 9.2.3). -/
def contributes (eu : EventUnit) (truth : BitVec 12) (o : Output) (n : Fin 12) : Bool :=
  let r := eu.routes.get n
  decide (r.output = o) && decide (r.level ≠ 0) && eu.enables.getLsbD n && truth.getLsbD n

/-- The higher of two levels. -/
def higher (a b : BitVec 3) : BitVec 3 := if a.toNat < b.toNat then b else a

/-- The pending level: the highest level among the events that contribute, 0 when none does
(R171, R172). -/
def pendingLevel (eu : EventUnit) (truth : BitVec 12) (o : Output) : BitVec 3 :=
  (List.finRange 12).foldl
    (fun l n => if contributes eu truth o n then higher l (eu.routes.get n).level else l) 0

/-- The pending event: the lowest-numbered event among those that contribute at the pending level,
0 when none does (R172). -/
def pendingEvent (eu : EventUnit) (truth : BitVec 12) (o : Output) : Fin 12 :=
  ((List.finRange 12).find? fun n =>
    contributes eu truth o n && decide ((eu.routes.get n).level = pendingLevel eu truth o)).getD 0

/-- An output is asserted exactly while some event contributes to it (R171). -/
def asserted (eu : EventUnit) (truth : BitVec 12) (o : Output) : Bool :=
  (List.finRange 12).any (contributes eu truth o)

end Sys2Proof.Machine
end

