-- ==== Sys2Proof/Machine/LineCommands.lean ====
section
/-! DEFINITION. The line commands LINE_START, LINE_STOP, LINE_HALT and LINE_BREAK (section 3.8). -/

namespace Sys2Proof.Machine

/-- LINE_START (R58). -/
def lineStart : CommandOp := fun s =>
  if s.le.state = .stopped then
    (({ s with le := { s.le with state := .idle } } : State).settle, .done)
  else (s, .refusedState)

/-- LINE_STOP (R59). -/
def lineStop : CommandOp := fun s =>
  match s.le.state with
  | .idle => (s.enterStopped, .done)
  | .stopped => (s, .done)
  | .holding | .turnaround | .sending | .awaiting | .receiving | .breaking =>
    ({ s with le := { s.le with stopMark := true } }, .done)

/-- The transaction that a halt finds: a request ends ABORTED with its counts and cancel mark as they
stand, a cycle item is dropped; either way its blocks are freed and no station report is made (R61). -/
def haltTransaction (t : Transaction) (s : State) : State :=
  let s1 := (s.freeChain t.payload).freeChain t.reservation
  match t.origin with
  | .request tag => s1.post (t.record tag .aborted t.cancel)
  | .pollSlot | .readSlot | .probe => s1

/-- What a halt does on the line: a withdraw order, or an end-break order, which sets the toggles to 0
when the low period was long enough (R12, R13, R34, R61). -/
def haltLine (s : State) : State :=
  match s.le.state with
  | .turnaround | .sending => { s with li := s.li.withdraw }
  | .breaking =>
    let t := { s with li := s.li.endBreak }
    if s.li.cutIsCertain then t.clearToggles else t
  | .stopped | .idle | .holding | .awaiting | .receiving => s

/-- A halt ends the current transaction, if there is one. -/
def haltCurrent (s : State) : State :=
  match s.le.current with
  | some t =>
    let u := haltTransaction t s
    { u with le := { u.le with current := none, attempt := Attempt.blank } }
  | none => s

/-- LINE_HALT (R61). -/
def lineHalt : CommandOp := fun s =>
  if s.le.state = .stopped then (s, .done) else ((haltCurrent (haltLine s)).enterStopped, .done)

/-- What LINE_BREAK does in IDLE or STOPPED (R13, R62). -/
def orderBreak (s : State) : State :=
  { s with
    li := s.li.breakOrder s.pins.clock
    le := { s.le with state := .breaking, breakFromStopped := decide (s.le.state = .stopped) } }

/-- LINE_BREAK (R62). -/
def lineBreak : CommandOp := fun s =>
  match s.le.state with
  | .idle | .stopped => (orderBreak s, .done)
  | .holding | .turnaround | .sending | .awaiting | .receiving | .breaking => (s, .refusedState)

/-- LINE_START (R58). -/
def execLineStart (s : State) : StepOutcome := .next (hostCommand 0x10 lineStart s)

/-- LINE_STOP (R59). -/
def execLineStop (s : State) : StepOutcome := .next (hostCommand 0x11 lineStop s)

/-- LINE_HALT (R61). -/
def execLineHalt (s : State) : StepOutcome := .next (hostCommand 0x12 lineHalt s)

/-- LINE_BREAK (R62). -/
def execLineBreak (s : State) : StepOutcome := .next (hostCommand 0x13 lineBreak s)

end Sys2Proof.Machine
end

