-- ==== Sys2Proof/Machine/ReadingCommands.lean ====
section
/-! DEFINITION. The commands by which the host reads replies: CP_OPEN and CP_RETIRE (section 7.5),
SNAP_PIN, SNAP_UNPIN and SNAP_OPEN (section 8.3.1). -/

namespace Sys2Proof.Machine

/-- CP_RETIRE (R140). -/
def cpRetire : CommandOp := fun s =>
  match s.cq.ring with
  | [] => (s, .empty)
  | r :: rest => ((retireHead r rest s).settle, .done)

/-- SNAP_UNPIN of one station (R153). -/
def snapUnpin (i : Fin 32) : CommandOp := fun s =>
  if (s.snapshot i).pinned then ((unpin i s).settle, .done) else (s, .already)

/-- CP_OPEN (R139). -/
def execCpOpen (s : State) : StepOutcome := .next (hostCommand 0x50 cpOpen s)

/-- CP_RETIRE (R140). -/
def execCpRetire (s : State) : StepOutcome := .next (hostCommand 0x51 cpRetire s)

/-- SNAP_PIN (R153, R181). -/
def execSnapPin (operand : Byte) (s : State) : StepOutcome :=
  .next (hostCommand 0x60 (stationCommand snapPin operand) s)

/-- SNAP_UNPIN (R153, R181). -/
def execSnapUnpin (operand : Byte) (s : State) : StepOutcome :=
  .next (hostCommand 0x61 (stationCommand snapUnpin operand) s)

/-- SNAP_OPEN (R154, R181). -/
def execSnapOpen (operand : Byte) (s : State) : StepOutcome :=
  .next (hostCommand 0x62 (stationCommand snapOpen operand) s)

end Sys2Proof.Machine
end

