-- ==== Sys2Proof/Machine/RequestCommands.lean ====
section
/-! DEFINITION. The request commands RQ_CLEAR, RQ_SUBMIT, RQ_CANCEL and RQ_FLUSH (sections 7.1, 7.2,
7.4). -/

namespace Sys2Proof.Machine

/-! ## The staging area -/

/-- The staging area takes its cleared values (R123, R125). -/
def State.clearStaging (s : State) : State := { s with ru := { s.ru with staging := .cleared } }

/-- RQ_CLEAR (R123). -/
def rqClear : CommandOp := fun s => (s.clearStaging.setCursor .staging, .done)

/-- The retry override a code names: a limit, or the station default; 9 to 15 name neither
(section 10.7.2). -/
def retryOverride (c : BitVec 4) : Option (Option (BitVec 3)) :=
  if c.toNat < 8 then some (some (c.setWidth 3)) else if c = 8 then some none else none

/-- The reply-blocks override a code names: 1 to 3, or the station default; 4 to 7 name neither
(section 10.7.2). -/
def blocksOverride (c : BitVec 3) : Option (Option (BitVec 2)) :=
  if c = 0 then some none else if c.toNat < 4 then some (some (c.setWidth 2)) else none

/-! ## Submission (R124, R125) -/

/-- The fields of the request the staging area spells, without its chain; none when check 1 of R124
finds an operand wrong. -/
def State.stagedRequest (s : State) : Option Request :=
  let g := s.ru.staging
  match requestKind g.kind, retryOverride g.retry with
  | some k, some retry =>
    let bare : Request :=
      { kind := k, station := none, tag := g.tag, retry := retry, blocks := none, payload := [],
        length := BitVec.ofNat 7 s.stagedLength }
    match k with
    | .bcast | .timesync => some bare
    | .poll | .read | .write | .probe =>
      let i := indexOf g.station
      match blocksOverride g.blocks with
      | some blocks =>
        if (s.station i).state = .unconfigured then none
        else some { bare with station := some i, blocks := blocks }
      | none => none
  | _, _ => none

/-- The queue the urgent field selects is full (R124 check 4). -/
def State.queueFull (s : State) : Bool :=
  if s.ru.staging.urgent then decide (8 ≤ s.ru.urgent.length)
  else decide (16 ≤ s.ru.normal.length)

/-- No completion slot is left (R124 check 3). -/
def State.slotsFull (s : State) : Bool := decide (32 ≤ s.cq.reserved + s.cq.ring.length)

/-- The request is appended at the tail of the queue the urgent field selects (R125 step 3). -/
def State.enqueue (s : State) (r : Request) : State :=
  if s.ru.staging.urgent then { s with ru := { s.ru with urgent := s.ru.urgent ++ [r] } }
  else { s with ru := { s.ru with normal := s.ru.normal ++ [r] } }

/-- The acceptance, the blocks having been taken: the payload is copied into its chain, a slot is
reserved, the request is queued and the staging area cleared (R125). A cursor in STAGING then stands
at the start of the empty payload, any other is left. -/
def acceptRequest (r : Request) (chain : Chain) (s : State) : State :=
  (({ s with
      fs := { s.fs with mem := Memory.storeFrom chain 0 s.ru.staging.payload s.fs.mem }
      cq := { s.cq with reserved := s.cq.reserved + 1 } } : State).enqueue
    { r with payload := chain }).clearStaging

/-- RQ_SUBMIT (R124, R125). -/
def rqSubmit : CommandOp := fun s =>
  match s.stagedRequest with
  | none => (s, .badOperand)
  | some r =>
    if r.kind = .timesync ∧ 0 < s.stagedLength then (s, .badOperand)
    else if s.slotsFull then (s, .full)
    else if s.queueFull then (s, .full)
    else
      match s.allocate (blocksFor s.stagedLength) with
      | none => (s, .noBuffer)
      | some (chain, t) => ((acceptRequest r chain t).settle, .done)

/-! ## Cancelling (R132 to R134) -/

/-- The request has this tag. -/
def Request.hasTag (tag : Word) (r : Request) : Bool := decide (r.tag = tag)

/-- The transaction is a request with this tag. -/
def Transaction.hasTag (tag : Word) (t : Transaction) : Bool := decide (t.origin = .request tag)

/-- RQ_CANCEL of the current transaction: its mark is set, and in HOLDING it ends at once
(R57, R134). -/
def cancelCurrent : CommandOp := fun s =>
  match s.le.current with
  | some t =>
    if t.hasTag s.ru.staging.tag then
      if t.cancel then (s, .already)
      else
        let u := { t with cancel := true }
        if s.le.state = .holding then ((endTransaction u u.roundResult s).settle, .done)
        else ({ s with le := { s.le with current := some u } }, .done)
    else (s, .notFound)
  | none => (s, .notFound)

/-- RQ_CANCEL: the urgent queue, the normal queue, the deferred list and the current transaction are
searched in this order for the staging tag (R132 to R134). -/
def rqCancel : CommandOp := fun s =>
  let tag := s.ru.staging.tag
  match s.ru.urgent.find? (Request.hasTag tag) with
  | some r =>
    ((({ s with ru := { s.ru with urgent := s.ru.urgent.eraseP (Request.hasTag tag) } }
      : State).endQueued r .cancelled true).settle, .done)
  | none =>
    match s.ru.normal.find? (Request.hasTag tag) with
    | some r =>
      ((({ s with ru := { s.ru with normal := s.ru.normal.eraseP (Request.hasTag tag) } }
        : State).endQueued r .cancelled true).settle, .done)
    | none =>
      match s.le.deferred.find? (fun d => d.txn.hasTag tag) with
      | some d => (((s.removeDeferred d.id).endDeferred d.txn .cancelled true).settle, .done)
      | none => cancelCurrent s

/-! ## Flushing (R136, R137) -/

/-- Requests taken out of their queue are posted ABORTED, head first (R136). -/
def abortQueued : List Request → State → State
  | [], s => s
  | r :: rest, s => abortQueued rest (s.endQueued r .aborted false)

/-- Entries taken out of the deferred list end in list order: requests ABORTED, cycle items dropped
(R137 step 3). -/
def abortDeferred : List Deferred → State → State
  | [], s => s
  | d :: rest, s => abortDeferred rest (s.endDeferred d.txn .aborted false)

/-- The urgent queue is emptied (R136). -/
def flushUrgent (s : State) : State :=
  abortQueued s.ru.urgent { s with ru := { s.ru with urgent := [] } }

/-- The normal queue is emptied (R136). -/
def flushNormal (s : State) : State :=
  abortQueued s.ru.normal { s with ru := { s.ru with normal := [] } }

/-- The deferred list is emptied (R137 step 3). -/
def flushDeferred (s : State) : State :=
  abortDeferred s.le.deferred { s with le := { s.le with deferred := [], expired := [] } }

/-- RQ_FLUSH, by its operand (R136, R137, R181). -/
def rqFlush (operand : Byte) : CommandOp := fun s =>
  if operand = 1 then ((flushUrgent s).settle, .done)
  else if operand = 2 then ((flushNormal s).settle, .done)
  else if operand = 3 then ((flushDeferred (flushNormal (flushUrgent s))).settle, .done)
  else (s, .badOperand)

/-! ## The rows -/

/-- RQ_CLEAR (R123). -/
def execRqClear (s : State) : StepOutcome := .next (hostCommand 0x40 rqClear s)

/-- RQ_SUBMIT (R124, R125). -/
def execRqSubmit (s : State) : StepOutcome := .next (hostCommand 0x41 rqSubmit s)

/-- RQ_CANCEL (R132 to R134). -/
def execRqCancel (s : State) : StepOutcome := .next (hostCommand 0x42 rqCancel s)

/-- RQ_FLUSH URGENT (R136). -/
def execRqFlushUrgent (s : State) : StepOutcome := .next (hostCommand 0x43 (rqFlush 1) s)

/-- RQ_FLUSH NORMAL (R136). -/
def execRqFlushNormal (s : State) : StepOutcome := .next (hostCommand 0x43 (rqFlush 2) s)

/-- RQ_FLUSH ALL (R137). -/
def execRqFlushAll (s : State) : StepOutcome := .next (hostCommand 0x43 (rqFlush 3) s)

/-- RQ_FLUSH with any other operand (R181). -/
def execRqFlushBadOperand (operand : Byte) (s : State) : StepOutcome :=
  .next (hostCommand 0x43 (rqFlush operand) s)

end Sys2Proof.Machine
end

