-- ==== Sys2Proof/Machine/Resets.lean ====
section
/-! DEFINITION. The two resets (R16, R17, R34, R35, R64, R65, R89, R90, R107, R108, R120, R121, R142,
R143, R161, R162, R173 to R176, R189, R190) and the reference clock's stop (R192, R193). -/

namespace Sys2Proof.Machine

/-! ## SOFT_RESET -/

/-- The engine's part: STOPPED without LINE_STOPPED, nothing in progress, the parameters kept
(R35, R65). -/
def LineEngine.softReset (e : LineEngine) : LineEngine :=
  { e with
    state := .stopped, current := none, attempt := Attempt.blank, deferred := [], expired := [],
    stopMark := false }

/-- One station entry's part: an active entry is sought again from the start, another keeps its state
and its run fields (R90). -/
def Station.softReset (e : Station) : Station :=
  if e.state.active then
    { e with
      state := .probing, failCount := 0, countdown := 0, toggle := false, lastReply := none,
      lastClass := none }
  else e

/-- The toggle of every entry, set to 0 when the reset cuts a break that every station is sure to have
recognised (R34, R90). -/
def Station.cutToggle (cut : Bool) (e : Station) : Station :=
  if cut then { e with toggle := false } else e

/-- The Cycle Unit's part: the banks, the selector and the swap-pending mark are kept (R108). -/
def CycleUnit.softReset (c : CycleUnit) : CycleUnit :=
  { c with
    state := .halted, pointer := 0, probeList := [], probePos := 0, timer := none,
    startPending := false, dispatched := false }

/-- The Frame Store's part: everything but the bytes of the blocks (R162). -/
def FrameStore.softReset (f : FrameStore) : FrameStore := { FrameStore.reset with mem := f.mem }

/-- SOFT_RESET, taken whole by every block (R189). The Time Base, the enables, the routes, TAB_SEL and
the staging image are kept (R174, R176, R189). -/
def softReset : CommandOp := fun s =>
  ({ s with
    li := s.li.softReset
    le := s.le.softReset
    st :=
      { entries :=
          Vector.ofFn fun i => ((s.st.entries.get i).cutToggle s.li.cutIsCertain).softReset
        changes := [] }
    cu := s.cu.softReset
    pollRun := 0
    ru := .reset
    cq := .reset
    fs := s.fs.softReset
    eu := { s.eu with latches := 0 } }, .done)

/-! ## The hard reset -/

/-- RESET asserted, or power-on: every block is held in its hard-reset state. The bytes of the blocks
are lost at power-on only (R161); the clock, the other drivers of the line and the commands waiting
are outside the part. -/
def hardReset (powerOn : Bool) (s : State) : State :=
  { State.reset with
    fs := { FrameStore.reset with mem := if powerOn then [] else s.fs.mem }
    pins := { Pins.reset with resetPin := true, clock := s.pins.clock }
    lineIn := s.lineIn
    choice := s.choice
    pending := s.pending }

/-- RESET released: an access whose strobe is asserted at that moment will not be taken
(R16, R190, R194). Without RESET asserted there is nothing to release (log 10). -/
def resetRelease (strobeHeld : Bool) (s : State) : State :=
  if s.pins.resetPin then
    { s with pins := { s.pins with resetPin := false, strobeHeld := strobeHeld } }
  else s

/-! ## The rows -/

/-- SOFT_RESET (R189). -/
def execSoftReset (s : State) : StepOutcome := .next (hostCommand 0xF0 softReset s)

/-- HARD_RESET (R190). -/
def execHardReset (powerOn : Bool) (s : State) : StepOutcome := .next (hardReset powerOn s)

/-- RESET_RELEASE (R16, R173, R190, R194). -/
def execResetRelease (strobeHeld : Bool) (s : State) : StepOutcome :=
  .next (resetRelease strobeHeld s)

/-- CLOCK_STOP: every count stands still at its value (R192). -/
def execClockStop (s : State) : StepOutcome := .next { s with pins := { s.pins with clock := false } }

/-- The reference clock runs again: every count goes on from its value, and a first start bit that only
waited for the clock begins (R8, R193, log 14). -/
def clockResume (s : State) : State :=
  ({ s with pins := { s.pins with clock := true } } : State).startIfElapsed

/-- CLOCK_RESUME (R193). -/
def execClockResume (s : State) : StepOutcome := .next (clockResume s)

end Sys2Proof.Machine
end

