-- ==== Sys2Proof/Machine/ScheduleCommands.lean ====
section
/-! DEFINITION. The schedule commands SCHED_RUN, SCHED_HALT and SCHED_SWAP (sections 5.1.3, 5.4). -/

namespace Sys2Proof.Machine

/-- SCHED_RUN (R105). -/
def schedRun : CommandOp := fun s =>
  if s.cu.state = .halted then ((runSchedule s).settle, .done) else (s, .refusedState)

/-- SCHED_HALT (R106). -/
def schedHalt : CommandOp := fun s =>
  if s.cu.state = .halted then (s, .done) else ((haltSchedule s).settle, .done)

/-- SCHED_RUN (R105). -/
def execSchedRun (s : State) : StepOutcome := .next (hostCommand 0x20 schedRun s)

/-- SCHED_HALT (R106). -/
def execSchedHalt (s : State) : StepOutcome := .next (hostCommand 0x21 schedHalt s)

/-- SCHED_SWAP (R94). -/
def execSchedSwap (s : State) : StepOutcome := .next (hostCommand 0x22 schedSwap s)

end Sys2Proof.Machine
end

