-- ==== Sys2Proof/Machine/StationCommands.lean ====
section
/-! DEFINITION. The station commands STN_ENABLE, STN_DISABLE and CHG_POP (sections 4.3, 4.5). -/

namespace Sys2Proof.Machine

/-- STN_ENABLE of one station (R79). -/
def stnEnable (i : Fin 32) : CommandOp := fun s =>
  match (s.station i).state with
  | .disabled => ((enableStation i s).settle, .done)
  | .unconfigured => (s, .refusedState)
  | .probing | .online | .degraded | .offline | .mismatched => (s, .already)

/-- STN_DISABLE of one station (R80). -/
def stnDisable (i : Fin 32) : CommandOp := fun s =>
  match (s.station i).state with
  | .disabled => (s, .already)
  | .unconfigured => (s, .refusedState)
  | .probing | .online | .degraded | .offline | .mismatched =>
    ((disableStation i s).settle, .done)

/-- STN_ENABLE (R79, R181). -/
def execStnEnable (operand : Byte) (s : State) : StepOutcome :=
  .next (hostCommand 0x30 (stationCommand stnEnable operand) s)

/-- STN_DISABLE (R80, R181). -/
def execStnDisable (operand : Byte) (s : State) : StepOutcome :=
  .next (hostCommand 0x31 (stationCommand stnDisable operand) s)

/-- CHG_POP (R87). -/
def execChgPop (s : State) : StepOutcome := .next (hostCommand 0x32 chgPop s)

end Sys2Proof.Machine
end

