-- ==== Sys2Proof/Machine/TableCommands.lean ====
section
/-! DEFINITION. The table access mechanism (section 10.5): TAB_READ and TAB_WRITE. Each is one
command of the register window; which of its rows a write of CMD is follows from TAB_SEL, so every
row of TAB_READ has the one meaning, and every row of TAB_WRITE the other. -/

namespace Sys2Proof.Machine

/-! ## What TAB_SEL names (section 10.5) -/

/-- An entry of the six tables. -/
inductive TabEntry where
  | station (i : Fin 32)
  | slot (bank : BankName) (n : Fin 64)
  | length (bank : BankName)
  | lineParameters
  | snapshot (i : Fin 32)
  | route (n : Fin 12)
  | changeHead
deriving DecidableEq, Repr

/-- An index below a bound. -/
def indexBelow (n : Nat) (v : Byte) : Option (Fin n) :=
  if h : v.toNat < n then some ⟨v.toNat, h⟩ else none

/-- The schedule entry of an index: 0 to 63 and 64 are bank A, 128 to 191 and 192 bank B. -/
def scheduleEntry (v : Byte) : Option TabEntry :=
  if v = 64 then some (.length .a)
  else if v = 192 then some (.length .b)
  else if v.toNat < 64 then some (.slot .a (Fin.ofNat 64 v.toNat))
  else if 128 ≤ v.toNat ∧ v.toNat < 192 then some (.slot .b (Fin.ofNat 64 (v.toNat - 128)))
  else none

/-- The entry that a select and an index name, if any (section 10.5). -/
def tabEntry (select : BitVec 3) (v : Byte) : Option TabEntry :=
  if select = 0 then (indexBelow 32 v).map .station
  else if select = 1 then scheduleEntry v
  else if select = 2 then (if v = 0 then some .lineParameters else none)
  else if select = 3 then (indexBelow 32 v).map .snapshot
  else if select = 4 then (indexBelow 12 v).map .route
  else if select = 5 then (if v = 0 then some .changeHead else none)
  else none

/-- The entry TAB_SEL names, if any. -/
def State.selected (s : State) : Option TabEntry := tabEntry s.bi.tabSelect s.bi.tabIndex

/-! ## TAB_READ -/

/-- The image that an entry loads (R63, R84, R93, R155, R170, R187). -/
def State.imageOf (s : State) : TabEntry → Vector Word 8
  | .station i => (s.station i).image
  | .slot name n => ((s.cu.bank name).slots.get n).image
  | .length name => lengthImage (s.cu.bank name).length (decide (s.cu.active = name))
  | .lineParameters => s.le.params.image
  | .snapshot i => (s.snapshot i).image
  | .route n => (s.eu.routes.get n).image
  | .changeHead => changeHeadImage s.st.changes

/-- TAB_READ (R185). -/
def tabRead : CommandOp := fun s =>
  match s.selected with
  | none => (s, .badOperand)
  | some e => ({ s with bi := { s.bi with image := s.imageOf e } }, .done)

/-! ## TAB_WRITE of a station entry (R81 to R83) -/

/-- Some transaction targets the index: a queued request, the current transaction or a deferred entry
(R81 check 1). -/
def State.targeted (s : State) (i : Fin 32) : Bool :=
  (s.ru.urgent.any fun r => decide (r.station = some i)) ||
  (s.ru.normal.any fun r => decide (r.station = some i)) ||
  (s.le.current.any fun t => decide (t.target = some i)) ||
  (s.le.deferred.any fun d => decide (d.txn.target = some i))

/-- A staged field lies outside its range (R81 check 3, section 10.7.3). -/
def Station.outOfRange (e : Station) : Bool :=
  decide (e.failLimit = 0) || decide (e.replyBlocks = 0) || decide (e.probeInterval = 0)

/-- Another configured entry holds the address (R81 check 4). -/
def State.addressTaken (s : State) (i : Fin 32) (address : Byte) : Bool :=
  (List.finRange 32).any fun j =>
    decide (j ≠ i) && decide ((s.station j).state ≠ .unconfigured) &&
      decide ((s.station j).address = address)

/-- The first check of R81 that applies to a staged entry, if any. -/
def State.stationRefusal (s : State) (i : Fin 32) (staged : Station) : Option ResultCode :=
  if (s.station i).state.active || s.targeted i then some .entryBusy
  else if 240 ≤ staged.address.toNat then some .badOperand
  else if staged.address = 0 then none
  else if staged.outOfRange then some .badOperand
  else if s.addressTaken i staged.address then some .duplicate
  else none

/-- The run fields of an entry that is configured with a staged address (R82). -/
def Station.configured (old staged : Station) : Station :=
  { staged with
    state := .disabled
    failCount := 0
    countdown := 0
    toggle := if staged.address = old.address then old.toggle else false
    lastReply := if staged.address = old.address then old.lastReply else none
    lastClass := if staged.address = old.address then old.lastClass else none }

/-- A station entry that passed the checks is stored, or returned to UNCONFIGURED when its address
is 0 (R82, R83). -/
def storeStation (i : Fin 32) (staged : Station) (s : State) : State :=
  let old := s.station i
  let new := if staged.address = 0 then Station.reset else old.configured staged
  (s.setStation i new).note i old.state new.state

/-- TAB_WRITE of a station entry (R81 to R83). -/
def writeStation (i : Fin 32) : CommandOp := fun s =>
  let staged := (s.station i).staged s.bi.image
  match s.stationRefusal i staged with
  | some r => (s, r)
  | none => (storeStation i staged s, .done)

/-! ## TAB_WRITE of the other tables -/

/-- A bank of the schedule is replaced. -/
def State.setBank (s : State) (name : BankName) (x : Bank) : State :=
  { s with cu := s.cu.setBank name x }

/-- TAB_WRITE of a schedule slot (R92). -/
def writeSlot (name : BankName) (n : Fin 64) : CommandOp := fun s =>
  let w0 := s.bi.image.get 0
  if s.cu.active = name then (s, .refusedState)
  else
    match indexBelow 32 (field 8 0 w0), slotKind (field 4 8 w0) with
    | some i, some k =>
      let x : Slot :=
        { station := i, kind := k, selector := field 8 0 (s.bi.image.get 1),
          enabled := field 1 15 w0 = 1 }
      let bank := s.cu.bank name
      (s.setBank name { bank with slots := bank.slots.set n x }, .done)
    | _, _ => (s, .badOperand)

/-- TAB_WRITE of a schedule length (R92). -/
def writeLength (name : BankName) : CommandOp := fun s =>
  let n := field 8 0 (s.bi.image.get 0)
  if s.cu.active = name then (s, .refusedState)
  else if n = 0 ∨ 64 < n.toNat then (s, .badOperand)
  else (s.setBank name { s.cu.bank name with length := n.setWidth 7 }, .done)

/-- The staged divisor word and parameters lie in their ranges (section 3.9). -/
def LineParams.inRange (p : LineParams) (divisorWord : Word) : Bool :=
  decide (divisorWord.toNat ≤ 4095) && decide (p.window ≠ 0) && decide (p.gap ≠ 0) &&
    decide (p.quiet ≠ 0) && decide (2 ≤ p.breakLength.toNat) && decide (p.holdoff ≠ 0) &&
    decide (1 ≤ p.threshold.toNat) && decide (p.threshold.toNat ≤ 32)

/-- A character that the receiver is assembling when the divisor changes is finished at the old sample
rate (R2). DESIGN CHOICE: a candidate start edge under examination and the positions of HELD_LOW go on at
the new rate, from the next sample clock (log 19). -/
def LineInterface.keepRate (l : LineInterface) (old : BitVec 12) : LineInterface :=
  match l.rx, l.oldRate with
  | .assembling _ _ _, none =>
    { l with oldRate := some { divisor := old.toNat, left := l.sampleLeft } }
  | _, _ => l

/-- The line parameters take their staged values; a change of the divisor or of the quiet interval
restarts the quiet timer (R14, R63). -/
def storeParams (p : LineParams) (s : State) : State :=
  let old := s.le.params
  let l1 := if old.divisor = p.divisor then s.li else s.li.keepRate old.divisor
  let l2 := if old.divisor = p.divisor ∧ old.quiet = p.quiet then l1 else l1.goActive
  { s with li := l2, le := { s.le with params := p } }

/-- TAB_WRITE of the line parameters (R63). -/
def writeParams : CommandOp := fun s =>
  let p := LineParams.staged s.bi.image
  if s.le.state ≠ .stopped then (s, .refusedState)
  else if p.inRange (s.bi.image.get 0) then (storeParams p s, .done)
  else (s, .badOperand)

/-- TAB_WRITE of a route entry (R170). -/
def writeRoute (n : Fin 12) : CommandOp := fun s =>
  let w0 := s.bi.image.get 0
  let level := field 4 0 w0
  match outputOf (field 2 8 w0) with
  | some o =>
    if level.toNat ≤ 7 then
      ({ s with
        eu := { s.eu with
          routes := s.eu.routes.set n { level := level.setWidth 3, output := o } } }, .done)
    else (s, .badOperand)
  | none => (s, .badOperand)

/-- TAB_WRITE (R186); the snapshot directory and the change queue head are read-only (R155, R187). -/
def tabWrite : CommandOp := fun s =>
  match s.selected with
  | none => (s, .badOperand)
  | some (.station i) => writeStation i s
  | some (.slot name n) => writeSlot name n s
  | some (.length name) => writeLength name s
  | some .lineParameters => writeParams s
  | some (.snapshot _) => (s, .refusedState)
  | some (.route n) => writeRoute n s
  | some .changeHead => (s, .refusedState)

/-! ## The rows -/

/-- TAB_READ of a station entry (R84). -/
def execTabReadStation (s : State) : StepOutcome := .next (hostCommand 0x70 tabRead s)

/-- TAB_READ of a schedule entry (R93). -/
def execTabReadSchedule (s : State) : StepOutcome := .next (hostCommand 0x70 tabRead s)

/-- TAB_READ of the line parameters (R63). -/
def execTabReadLineParameters (s : State) : StepOutcome := .next (hostCommand 0x70 tabRead s)

/-- TAB_READ of a snapshot record (R155). -/
def execTabReadSnapshot (s : State) : StepOutcome := .next (hostCommand 0x70 tabRead s)

/-- TAB_READ of a route entry (R170). -/
def execTabReadRoute (s : State) : StepOutcome := .next (hostCommand 0x70 tabRead s)

/-- TAB_READ of the change queue head (R187). -/
def execTabReadChangeQueueHead (s : State) : StepOutcome := .next (hostCommand 0x70 tabRead s)

/-- TAB_READ that names no entry (R185). -/
def execTabReadNoEntry (s : State) : StepOutcome := .next (hostCommand 0x70 tabRead s)

/-- TAB_WRITE of a station entry (R81). -/
def execTabWriteStation (s : State) : StepOutcome := .next (hostCommand 0x71 tabWrite s)

/-- TAB_WRITE of a schedule entry (R92). -/
def execTabWriteSchedule (s : State) : StepOutcome := .next (hostCommand 0x71 tabWrite s)

/-- TAB_WRITE of the line parameters (R63). -/
def execTabWriteLineParameters (s : State) : StepOutcome := .next (hostCommand 0x71 tabWrite s)

/-- TAB_WRITE of a snapshot record (R155). -/
def execTabWriteSnapshot (s : State) : StepOutcome := .next (hostCommand 0x71 tabWrite s)

/-- TAB_WRITE of a route entry (R170). -/
def execTabWriteRoute (s : State) : StepOutcome := .next (hostCommand 0x71 tabWrite s)

/-- TAB_WRITE of the change queue head (R187). -/
def execTabWriteChangeQueueHead (s : State) : StepOutcome := .next (hostCommand 0x71 tabWrite s)

/-- TAB_WRITE that names no entry (R186). -/
def execTabWriteNoEntry (s : State) : StepOutcome := .next (hostCommand 0x71 tabWrite s)

end Sys2Proof.Machine
end

