-- ==== Sys2Proof/Machine/Registers.lean ====
section
/-! DEFINITION. The register window (Chapter 10): what a read of each offset returns and what a write
does, the command decoder, and the rows that are accesses of one register. -/

namespace Sys2Proof.Machine

/-! ## Views -/

/-- A condition's truth at its event's position. -/
def truthBit (c : Bool) (e : Event) : BitVec 12 := if c then e.bit else 0

/-- The state of all twelve events: the latches of the occurrences and the present truth of the three
conditions (R88, R117, R141, R168). -/
def State.events (s : State) : BitVec 12 :=
  (s.eu.latches &&& occurrenceMask) |||
    truthBit s.completionsPending .completionsPending |||
    truthBit (!s.st.changes.isEmpty) .stationNotice |||
    truthBit s.bufferWait .bufferWait

/-- IRQA and IRQB: asserted or not (R171). While RESET is asserted every latch and enable is clear and
both are deasserted (R175). -/
def State.irq (s : State) (o : Output) : Bool := asserted s.eu s.events o

/-- The level of the pin IRQA or IRQB: low while the output is asserted, high while it is not
(R171, R175). -/
def State.irqPin (s : State) (o : Output) : Bool := !s.irq o

/-- CRES (R180). -/
def State.cres (s : State) : Word := place 0 s.bi.result.code ||| place 8 s.bi.answered

/-- STS (R178). -/
def State.sts (s : State) : Word :=
  place 0 s.le.state.code ||| place 4 s.cu.state.code ||| placeBool 6 s.le.stopMark |||
    placeBool 7 s.cu.swapPending ||| place 8 s.fs.cursor.code |||
    placeBool 10 (decide (s.li.monitor = .quiet))

/-- RQ_SEL (R182). -/
def Staging.sel (g : Staging) : Word :=
  place 0 g.station ||| place 8 g.kind ||| placeBool 15 g.urgent

/-- RQ_OVR (R182). -/
def Staging.ovr (g : Staging) : Word := place 0 g.retry ||| place 8 g.blocks

/-- The head of the ring, for the completion head view (R138). -/
def State.headRecord (s : State) : Option Record := s.cq.ring.head?

/-- A register of the completion head view: 0 for an empty ring (R188). -/
def State.headView (s : State) (f : Record → Word) : Word := (s.headRecord.map f).getD 0

/-- CP_OUT (section 10.7.2). -/
def Record.out (r : Record) : Word :=
  place 0 r.outcome.code ||| place 4 r.kind.code |||
    place 8 ((r.station.map indexBits).getD 0) ||| placeBool 13 r.station.isSome |||
    placeBool 14 r.cancel ||| placeBool 15 (!r.chain.isEmpty)

/-- CP_CNT (section 10.7.2). -/
def Record.counts (r : Record) : Word :=
  place 0 r.attempts ||| place 4 r.busyCount ||| place 8 (causeCode r.cause) |||
    place 12 (replyKindCode r.replyKind)

/-- CP_REPLY (section 10.7.2). -/
def Record.reply (r : Record) : Word :=
  place 0 (r.replyLength.getD 0) ||| placeBool 7 r.replyLength.isSome |||
    place 8 (r.nakReason.getD 0)

/-- CQCOUNT (R127, R178). -/
def State.cqCount (s : State) : Word :=
  place 0 (BitVec.ofNat 6 s.cq.ring.length) ||| place 8 (BitVec.ofNat 6 s.cq.reserved)

/-- EV_PEND (R172). -/
def State.evPend (s : State) : Word :=
  place 0 (pendingLevel s.eu s.events .a) |||
    place 4 (BitVec.ofNat 4 (pendingEvent s.eu s.events .a).val) |||
    place 8 (pendingLevel s.eu s.events .b) |||
    place 12 (BitVec.ofNat 4 (pendingEvent s.eu s.events .b).val)

/-- TAB_SEL (R183). -/
def State.tabSel (s : State) : Word :=
  place 0 s.bi.tabIndex ||| place 8 s.bi.tabSelect ||| placeBool 15 s.bi.tabPage

/-- The image word that TAB_Wn shows (R184). -/
def State.windowWord (s : State) (n : Fin 4) : Fin 8 :=
  if s.bi.tabPage then Fin.ofNat 8 (n.val + 4) else Fin.ofNat 8 n.val

/-- TAB_Wn (R184). -/
def State.tabW (s : State) (n : Fin 4) : Word := s.bi.image.get (s.windowWord n)

/-! ## Reads -/

/-- The value of a register whose read changes nothing; TB_LO and DPORT are in `registerRead`
(section 10.2). -/
def State.registerValue (s : State) (offset : Fin 32) : Word :=
  match offset.val with
  | 1 => s.cres
  | 2 => s.sts
  | 4 => place 0 s.drem
  | 5 => s.ru.staging.sel
  | 6 => s.ru.staging.tag
  | 7 => s.ru.staging.ovr
  | 8 => place 0 (BitVec.ofNat 7 s.stagedLength)
  | 9 => s.headView Record.tag
  | 10 => s.headView Record.out
  | 11 => s.headView Record.counts
  | 12 => s.headView Record.reply
  | 13 => s.headView fun r => r.stamp.extractLsb' 0 16
  | 14 => s.headView fun r => r.stamp.extractLsb' 16 16
  | 15 => s.cqCount
  | 16 => s.tb.counter.extractLsb' 0 16
  | 17 => s.tb.hold
  | 18 => place 0 s.events
  | 19 => place 0 s.eu.enables
  | 20 => s.evPend
  | 21 => s.tabSel
  | 22 => s.tabW 0
  | 23 => s.tabW 1
  | 24 => s.tabW 2
  | 25 => s.tabW 3
  | 26 => chgHeadWord s.st.changes
  | 27 => chgTimesWord s.st.changes
  | 28 => place 0 (BitVec.ofNat 8 s.freeCount)
  | 29 => place 0 (BitVec.ofNat 6 s.st.changes.length)
  | 30 => Config.partId
  | _ => 0

/-- A read of TB_LO: the low half is returned and the high half copied into the hold (R164). -/
def tbLoRead (s : State) : Word × State :=
  (s.tb.counter.extractLsb' 0 16,
    { s with tb := { s.tb with hold := s.tb.counter.extractLsb' 16 16 } })

/-- A read of an offset (R177). -/
def registerRead (offset : Fin 32) (s : State) : Word × State :=
  if offset = 3 then dportRead s
  else if offset = 16 then tbLoRead s
  else (s.registerValue offset, s)

/-! ## The command decoder -/

/-- TB_CLEAR (R165). -/
def tbClear : CommandOp := fun s => ({ s with tb := { s.tb with counter := 0, hold := 0 } }, .done)

/-- A code outside the command table (R179). -/
def unknownCode : CommandOp := fun s => (s, .badOperand)

/-- What carries out a command code with its operand (section 10.3.1). -/
def commandOf (code operand : Byte) : CommandOp :=
  if code = 0x10 then lineStart
  else if code = 0x11 then lineStop
  else if code = 0x12 then lineHalt
  else if code = 0x13 then lineBreak
  else if code = 0x20 then schedRun
  else if code = 0x21 then schedHalt
  else if code = 0x22 then schedSwap
  else if code = 0x30 then stationCommand stnEnable operand
  else if code = 0x31 then stationCommand stnDisable operand
  else if code = 0x32 then chgPop
  else if code = 0x40 then rqClear
  else if code = 0x41 then rqSubmit
  else if code = 0x42 then rqCancel
  else if code = 0x43 then rqFlush operand
  else if code = 0x50 then cpOpen
  else if code = 0x51 then cpRetire
  else if code = 0x60 then stationCommand snapPin operand
  else if code = 0x61 then stationCommand snapUnpin operand
  else if code = 0x62 then stationCommand snapOpen operand
  else if code = 0x70 then tabRead
  else if code = 0x71 then tabWrite
  else if code = 0x80 then tbClear
  else if code = 0xF0 then softReset
  else unknownCode

/-! ## Writes -/

/-- A write of EV_LATCH clears the latches written as 1; no other position has a latch (R168). -/
def evLatchWrite (v : Word) (s : State) : State :=
  { s with eu := { s.eu with latches := s.eu.latches &&& ~~~(field 12 0 v) } }

/-- A write of EV_ENABLE replaces all the enables (R169). -/
def evEnableWrite (v : Word) (s : State) : State := { s with eu := { s.eu with enables := field 12 0 v } }

/-- A write of RQ_SEL (R182). -/
def rqSelWrite (v : Word) (s : State) : State :=
  { s with
    ru := { s.ru with
      staging := { s.ru.staging with
        station := field 5 0 v, kind := field 4 8 v, urgent := field 1 15 v = 1 } } }

/-- A write of RQ_TAG (R182). -/
def rqTagWrite (v : Word) (s : State) : State :=
  { s with ru := { s.ru with staging := { s.ru.staging with tag := v } } }

/-- A write of RQ_OVR (R182). -/
def rqOvrWrite (v : Word) (s : State) : State :=
  { s with
    ru := { s.ru with
      staging := { s.ru.staging with retry := field 4 0 v, blocks := field 3 8 v } } }

/-- A write of TAB_SEL (R183). -/
def tabSelWrite (v : Word) (s : State) : State :=
  { s with
    bi := { s.bi with
      tabIndex := field 8 0 v, tabSelect := field 3 8 v, tabPage := field 1 15 v = 1 } }

/-- A write of TAB_Wn (R184). -/
def tabWWrite (n : Fin 4) (v : Word) (s : State) : State :=
  { s with bi := { s.bi with image := s.bi.image.set (s.windowWord n) v } }

/-- A write of an offset other than CMD; a write of a read-only register, or of offset 31, is ignored
(R177). -/
def registerWrite (offset : Fin 32) (v : Word) (s : State) : State :=
  match offset.val with
  | 3 => dportWrite (field 8 0 v) s
  | 5 => rqSelWrite v s
  | 6 => rqTagWrite v s
  | 7 => rqOvrWrite v s
  | 18 => evLatchWrite v s
  | 19 => evEnableWrite v s
  | 21 => tabSelWrite v s
  | 22 => tabWWrite 0 v s
  | 23 => tabWWrite 1 v s
  | 24 => tabWWrite 2 v s
  | 25 => tabWWrite 3 v s
  | _ => s

/-! ## The bus -/

/-- A write access (R177, R179). -/
def busWrite (offset : Fin 32) (v : Word) (s : State) : State :=
  if offset = 0 then hostCommand (field 8 0 v) (commandOf (field 8 0 v) (field 8 8 v)) s
  else hostWrite (registerWrite offset v) s

/-- A read access (R177). -/
def busRead (offset : Fin 32) (s : State) : State := hostRead (registerRead offset) s

/-- What the levels asserted on CS, RD and WR bring about: an access with one strobe, and nothing with
both, with none, or without chip select (R177). -/
def busCycle (cs rd wr : Bool) (offset : Fin 32) (v : Word) (s : State) : State :=
  if cs && wr && !rd then busWrite offset v s
  else if cs && rd && !wr then busRead offset s
  else s

/-! ## The rows -/

/-- TB_CLEAR (R165). -/
def execTbClear (s : State) : StepOutcome := .next (hostCommand 0x80 tbClear s)

/-- UNKNOWN_COMMAND: a write of CMD, decoded like any other (R179). -/
def execUnknownCommand (code operand : Byte) (s : State) : StepOutcome :=
  .next (hostCommand code (commandOf code operand) s)

/-- DPORT_WRITE (R157). -/
def execDportWrite (value : Word) (s : State) : StepOutcome := .next (busWrite 3 value s)

/-- DPORT_READ (R158). -/
def execDportRead (s : State) : StepOutcome := .next (busRead 3 s)

/-- TB_LO_READ (R164). -/
def execTbLoRead (s : State) : StepOutcome := .next (busRead 16 s)

/-- EV_LATCH_WRITE (R168). -/
def execEvLatchWrite (value : Word) (s : State) : StepOutcome := .next (busWrite 18 value s)

/-- EV_ENABLE_WRITE (R169). -/
def execEvEnableWrite (value : Word) (s : State) : StepOutcome := .next (busWrite 19 value s)

/-- RQ_SEL_WRITE (R182). -/
def execRqSelWrite (value : Word) (s : State) : StepOutcome := .next (busWrite 5 value s)

/-- RQ_TAG_WRITE (R182). -/
def execRqTagWrite (value : Word) (s : State) : StepOutcome := .next (busWrite 6 value s)

/-- RQ_OVR_WRITE (R182). -/
def execRqOvrWrite (value : Word) (s : State) : StepOutcome := .next (busWrite 7 value s)

/-- TAB_SEL_WRITE (R183). -/
def execTabSelWrite (value : Word) (s : State) : StepOutcome := .next (busWrite 21 value s)

/-- TAB_W_WRITE (R184). -/
def execTabWWrite (n : Fin 4) (value : Word) (s : State) : StepOutcome :=
  .next (hostWrite (tabWWrite n value) s)

/-- REGISTER_WRITE_IGNORED: a write of the offset, decoded like any other (R177). -/
def execRegisterWriteIgnored (offset : Fin 32) (value : Word) (s : State) : StepOutcome :=
  .next (busWrite offset value s)

end Sys2Proof.Machine
end

