-- ==== Sys2Proof/Machine/TimeRows.lean ====
section
/-! DEFINITION. The rows of the table that count in ticks: TICK, HOLDOFF_EXPIRY, PERIOD_EXPIRY and
NEXT_TICK_CYCLE_START (R163, R52, R103, R104). As in LineRows, a row stands for the time that passes
until its event (log 2). -/

namespace Sys2Proof.Machine

/-- The entry of this `id` expires: its holdoff is 0, and it is the newest of the expired (R52). -/
def State.expireEntry (s : State) (i : Fin 4) : State :=
  { s with
    le := { s.le with
      deferred := s.le.deferred.map fun d => if d.id = i then { d with holdoff := 0 } else d
      expired := s.le.expired ++ [i] } }

/-- HOLDOFF_EXPIRY: the holdoff of the entry at a place of the deferred list, above 0 until then,
reaches 0 (R52, R53). -/
def holdoffEvent (place : Fin 4) (s : State) : State :=
  match s.le.deferred[place.val]? with
  | some d => if d.holdoff = 0 then s else (s.expireEntry d.id).settle
  | none => s

/-- PERIOD_EXPIRY: a running period timer reaches 0 (R102, R103). -/
def periodEvent (s : State) : State := if s.cu.timer.isSome then s.expirePeriod.settle else s

/-- NEXT_TICK_CYCLE_START: a WAITING unit whose timer is stopped starts its next cycle (R104). -/
def nextTickEvent (s : State) : State :=
  if s.cu.state = .waiting ∧ s.cu.timer = none then s.cycleStartLoading.settle else s

/-- TICK (R163). -/
def execTick (s : State) : StepOutcome := .next (timed tick s)

/-- HOLDOFF_EXPIRY (R52). -/
def execHoldoffExpiry (place : Fin 4) (s : State) : StepOutcome :=
  .next (timed (holdoffEvent place) s)

/-- PERIOD_EXPIRY (R103). -/
def execPeriodExpiry (s : State) : StepOutcome := .next (timed periodEvent s)

/-- NEXT_TICK_CYCLE_START (R104). -/
def execNextTickCycleStart (s : State) : StepOutcome := .next (timed nextTickEvent s)

end Sys2Proof.Machine
end

