-- ==== Sys2Proof/Machine/Dispatch.lean ====
section
/-! DEFINITION. The meaning of each command, one arm per row of the table. -/

namespace Sys2Proof.Machine

def exec (i : Instr) (s : State) : Host.Outcome State Fault Refusal :=
  match i with
  | .lineStart => Sys2Proof.Machine.execLineStart s
  | .lineStop => Sys2Proof.Machine.execLineStop s
  | .lineHalt => Sys2Proof.Machine.execLineHalt s
  | .lineBreak => Sys2Proof.Machine.execLineBreak s
  | .schedRun => Sys2Proof.Machine.execSchedRun s
  | .schedHalt => Sys2Proof.Machine.execSchedHalt s
  | .schedSwap => Sys2Proof.Machine.execSchedSwap s
  | .stnEnable operand => Sys2Proof.Machine.execStnEnable operand s
  | .stnDisable operand => Sys2Proof.Machine.execStnDisable operand s
  | .chgPop => Sys2Proof.Machine.execChgPop s
  | .rqClear => Sys2Proof.Machine.execRqClear s
  | .rqSubmit => Sys2Proof.Machine.execRqSubmit s
  | .rqCancel => Sys2Proof.Machine.execRqCancel s
  | .rqFlushUrgent => Sys2Proof.Machine.execRqFlushUrgent s
  | .rqFlushNormal => Sys2Proof.Machine.execRqFlushNormal s
  | .rqFlushAll => Sys2Proof.Machine.execRqFlushAll s
  | .cpOpen => Sys2Proof.Machine.execCpOpen s
  | .cpRetire => Sys2Proof.Machine.execCpRetire s
  | .snapPin operand => Sys2Proof.Machine.execSnapPin operand s
  | .snapUnpin operand => Sys2Proof.Machine.execSnapUnpin operand s
  | .snapOpen operand => Sys2Proof.Machine.execSnapOpen operand s
  | .tabReadStation => Sys2Proof.Machine.execTabReadStation s
  | .tabReadSchedule => Sys2Proof.Machine.execTabReadSchedule s
  | .tabReadLineParameters => Sys2Proof.Machine.execTabReadLineParameters s
  | .tabReadSnapshot => Sys2Proof.Machine.execTabReadSnapshot s
  | .tabReadRoute => Sys2Proof.Machine.execTabReadRoute s
  | .tabReadChangeQueueHead => Sys2Proof.Machine.execTabReadChangeQueueHead s
  | .tabReadNoEntry => Sys2Proof.Machine.execTabReadNoEntry s
  | .tabWriteStation => Sys2Proof.Machine.execTabWriteStation s
  | .tabWriteSchedule => Sys2Proof.Machine.execTabWriteSchedule s
  | .tabWriteLineParameters => Sys2Proof.Machine.execTabWriteLineParameters s
  | .tabWriteSnapshot => Sys2Proof.Machine.execTabWriteSnapshot s
  | .tabWriteRoute => Sys2Proof.Machine.execTabWriteRoute s
  | .tabWriteChangeQueueHead => Sys2Proof.Machine.execTabWriteChangeQueueHead s
  | .tabWriteNoEntry => Sys2Proof.Machine.execTabWriteNoEntry s
  | .tbClear => Sys2Proof.Machine.execTbClear s
  | .softReset => Sys2Proof.Machine.execSoftReset s
  | .unknownCommand code operand => Sys2Proof.Machine.execUnknownCommand code operand s
  | .dportWrite value => Sys2Proof.Machine.execDportWrite value s
  | .dportRead => Sys2Proof.Machine.execDportRead s
  | .tbLoRead => Sys2Proof.Machine.execTbLoRead s
  | .evLatchWrite value => Sys2Proof.Machine.execEvLatchWrite value s
  | .evEnableWrite value => Sys2Proof.Machine.execEvEnableWrite value s
  | .rqSelWrite value => Sys2Proof.Machine.execRqSelWrite value s
  | .rqTagWrite value => Sys2Proof.Machine.execRqTagWrite value s
  | .rqOvrWrite value => Sys2Proof.Machine.execRqOvrWrite value s
  | .tabSelWrite value => Sys2Proof.Machine.execTabSelWrite value s
  | .tabWWrite n value => Sys2Proof.Machine.execTabWWrite n value s
  | .registerWriteIgnored offset value => Sys2Proof.Machine.execRegisterWriteIgnored offset value s
  | .hardReset powerOn => Sys2Proof.Machine.execHardReset powerOn s
  | .resetRelease strobeHeld => Sys2Proof.Machine.execResetRelease strobeHeld s
  | .clockStop => Sys2Proof.Machine.execClockStop s
  | .clockResume => Sys2Proof.Machine.execClockResume s
  | .tick => Sys2Proof.Machine.execTick s
  | .holdoffExpiry place => Sys2Proof.Machine.execHoldoffExpiry place s
  | .periodExpiry => Sys2Proof.Machine.execPeriodExpiry s
  | .nextTickCycleStart => Sys2Proof.Machine.execNextTickCycleStart s
  | .quietReport => Sys2Proof.Machine.execQuietReport s
  | .activeReport => Sys2Proof.Machine.execActiveReport s
  | .replyWindowExpiry => Sys2Proof.Machine.execReplyWindowExpiry s
  | .gapExpiry => Sys2Proof.Machine.execGapExpiry s
  | .startReport noise => Sys2Proof.Machine.execStartReport noise s
  | .characterReport data mark noise framing => Sys2Proof.Machine.execCharacterReport data mark noise framing s
  | .breakReport => Sys2Proof.Machine.execBreakReport s
  | .firstStartReport => Sys2Proof.Machine.execFirstStartReport s
  | .echoReport data mark noise framing => Sys2Proof.Machine.execEchoReport data mark noise framing s
  | .releasedReport => Sys2Proof.Machine.execReleasedReport s
  | .breakLowEnd => Sys2Proof.Machine.execBreakLowEnd s
  | .breakDoneReport => Sys2Proof.Machine.execBreakDoneReport s
  | .heldLowEnd => Sys2Proof.Machine.execHeldLowEnd s
  | .rqFlushBadOperand operand => Sys2Proof.Machine.execRqFlushBadOperand operand s

end Sys2Proof.Machine
end

