-- ==== Sys2Proof/Machine/Step.lean ====
section
/-! DEFINITION. One step: the command at the front of the queue, or one period of the reference clock
when none waits (log 1). -/

namespace Sys2Proof.Machine

/-- One step. -/
def step (s : State) : StepOutcome :=
  match s.pending with
  | [] => .next (refClock s)
  | c :: rest => exec c { s with pending := rest }

/-- The state with the command that a word spells put at the front of its queue; unchanged where the
word spells none. No row of the table has bits, so no word spells a command. -/
def State.withFetchWord (s : State) (nbits w : Nat) : State :=
  match decodeTableWord nbits w with
  | some c => { s with pending := c :: s.pending }
  | none => s

end Sys2Proof.Machine
end

