-- ==== Sys2Proof/Safety.lean ====
section
/-! DEFINITION. What a good state is: the properties the spec says hold at every moment. The statements
about every step are in terms of these. -/

namespace Sys2Proof.Machine

/-! ## Frame-store blocks (R144) -/

/-- The blocks a transaction holds: its payload chain and its reply reservation. -/
def Transaction.held (t : Transaction) : Chain := t.payload ++ t.reservation

/-- The blocks a snapshot record holds: its current and its next chain. -/
def Snapshot.held (x : Snapshot) : Chain := replyChain x.current ++ replyChain x.next

/-- Every block that is in the free list or has an owner, owner by owner (R144). -/
def State.allBlocks (s : State) : List Block :=
  s.fs.free ++
    s.ru.urgent.flatMap Request.payload ++
    s.ru.normal.flatMap Request.payload ++
    s.le.current.toList.flatMap Transaction.held ++
    s.le.deferred.flatMap (fun d => d.txn.held) ++
    s.cq.ring.flatMap Record.chain ++
    s.fs.snapshots.toList.flatMap Snapshot.held

/-- Each of the 128 blocks is in exactly one place (R144). -/
def State.BlocksAccounted (s : State) : Prop := s.allBlocks.Perm Chain.all

/-! ## The engine and its transaction (section 3.1) -/

/-- The engine states that hold a transaction (section 3.1). -/
def EngineState.holds : EngineState → Bool
  | .holding | .turnaround | .sending | .awaiting | .receiving => true
  | .stopped | .idle | .breaking => false

/-- The engine holds a transaction in exactly the states of section 3.1. -/
def State.EngineCoherent (s : State) : Prop := s.le.current.isSome = s.le.state.holds

/-- The transaction is a request. -/
def Transaction.isRequest (t : Transaction) : Bool :=
  match t.origin with
  | .request _ => true
  | .pollSlot | .readSlot | .probe => false

/-- A cycle item has no payload chain (R147). -/
def Transaction.PayloadFits (t : Transaction) : Prop := t.isRequest = true ∨ t.payload = []

/-- The deferred list: up to four entries, under different names, that hold no reservation; the
expired ones are entries of the list with a holdoff of 0, each once (R52, R54, R147). -/
def State.DeferredWf (s : State) : Prop :=
  s.le.deferred.length ≤ 4 ∧
    (s.le.deferred.map Deferred.id).Nodup ∧
    s.le.expired.Nodup ∧
    (∀ i ∈ s.le.expired, ∃ d ∈ s.le.deferred, d.id = i ∧ d.holdoff = 0) ∧
    ∀ d ∈ s.le.deferred, d.txn.reservation = [] ∧ d.txn.PayloadFits

/-- The engine holds a transaction in the states that hold one, it and the deferred ones are well
formed: what the accounts of blocks and slots rest on. -/
def State.TransactionsWf (s : State) : Prop :=
  s.EngineCoherent ∧ s.DeferredWf ∧ ∀ t, s.le.current = some t → t.PayloadFits

/-- The stop mark is set only in a state that waits for an end (R59, R109). -/
def State.StopMarkFits (s : State) : Prop :=
  s.le.stopMark = true → s.le.state ≠ .idle ∧ s.le.state ≠ .stopped

/-! ## Completion slots (R127) -/

/-- The accepted requests that have not been posted: queued, in flight or deferred (R127). -/
def State.unposted (s : State) : Nat :=
  s.ru.urgent.length + s.ru.normal.length + s.le.current.toList.countP Transaction.isRequest +
    s.le.deferred.countP fun d => d.txn.isRequest

/-- The reserved count is the number of unposted requests, and with the records it never exceeds 32
(R127); the queues keep their bounds (R126). -/
def State.SlotsAccounted (s : State) : Prop :=
  s.cq.reserved = s.unposted ∧ s.cq.reserved + s.cq.ring.length ≤ 32 ∧ s.ru.urgent.length ≤ 8 ∧
    s.ru.normal.length ≤ 16

/-! ## Stations (R66, R67, R74, R85) -/

/-- The fail count fits the state (R74). -/
def Station.failCountFits (e : Station) : Bool :=
  let n := e.failCount.toNat
  let limit := e.failLimit.toNat
  match e.state with
  | .unconfigured => decide (n = 0)
  | .disabled => decide (n ≤ limit)
  | .probing => decide (n < limit)
  | .online | .mismatched => decide (n = 0)
  | .degraded => decide (1 ≤ n ∧ n < limit)
  | .offline => decide (n = limit)

/-- An entry holds configuration that a write accepts, or none (R66, R67). -/
def Station.configFits (e : Station) : Bool :=
  if e.state = .unconfigured then decide (e = Station.reset)
  else
    decide (e.address ≠ 0) && decide (e.address.toNat ≤ 239) && decide (e.failLimit ≠ 0) &&
      decide (e.replyBlocks ≠ 0) && decide (e.probeInterval ≠ 0)

/-- Every entry is as R66 and R74 say. -/
def State.StationsFit (s : State) : Prop :=
  ∀ i : Fin 32, (s.station i).configFits = true ∧ (s.station i).failCountFits = true

/-- No two configured entries share an address (R67). -/
def State.AddressesDistinct (s : State) : Prop :=
  ∀ i j : Fin 32, (s.station i).state ≠ .unconfigured → (s.station j).state ≠ .unconfigured →
    (s.station i).address = (s.station j).address → i = j

/-- The change queue holds at most one notice per station (R85). -/
def State.NoticesDistinct (s : State) : Prop := (s.st.changes.map Notice.station).Nodup

/-! ## Snapshots and the cursor (R151, R154) -/

/-- A next reply is there only while the record is pinned, and a pinned record has a current one
(R151, R153). -/
def Snapshot.Fits (x : Snapshot) : Prop :=
  (x.next.isSome = true → x.pinned = true) ∧ (x.pinned = true → x.current.isSome = true)

def State.SnapshotsFit (s : State) : Prop := ∀ i : Fin 32, (s.snapshot i).Fits

/-- The cursor stands on a chain that is there: the head record's, or a pinned current one
(R139, R154). -/
def State.CursorFits (s : State) : Prop :=
  match s.fs.cursor with
  | .completion _ _ => s.cursorChain ≠ []
  | .snapshot i _ _ => (s.snapshot i).pinned = true ∧ s.cursorChain ≠ []
  | .staging | .none => True

/-! ## Replies that can be read (R28, R131, R148, R158) -/

/-- A record's reply chain is absent, or has the blocks its reply length needs (R131, R148). -/
def Record.ChainFits (r : Record) : Prop :=
  r.chain = [] ∨
    ∃ n, r.replyLength = some n ∧ n ≠ 0 ∧ n.toNat ≤ 96 ∧ r.chain.length = blocksFor n.toNat

/-- A snapshot's reply chain has the blocks its length needs (R148, R150). -/
def Installed.ChainFits (x : Installed) : Prop :=
  x.length.toNat ≤ 96 ∧ x.chain.length = blocksFor x.length.toNat

/-- A reservation has at most 3 blocks (R115), every reply that is kept has the blocks its length needs,
and what the cursor has read and what remains make up the length of the reply under it (R158). -/
def State.RepliesFit (s : State) : Prop :=
  (∀ t, s.le.current = some t → t.reservation.length ≤ 3) ∧
    (∀ r ∈ s.cq.ring, r.ChainFits) ∧
    (∀ i, ∀ x ∈ (s.snapshot i).current, x.ChainFits) ∧
    (∀ i, ∀ x ∈ (s.snapshot i).next, x.ChainFits) ∧
    match s.fs.cursor with
    | .completion p r =>
      ∃ head rest n, s.cq.ring = head :: rest ∧ head.replyLength = some n ∧
        p.toNat + r.toNat = n.toNat
    | .snapshot i p r =>
      ∃ x, (s.snapshot i).current = some x ∧ p.toNat + r.toNat = x.length.toNat
    | .staging | .none => True

/-- The staged payload has at most 96 bytes (R122). -/
def State.StagingFits (s : State) : Prop := s.ru.staging.payload.length ≤ 96

/-! ## Events, parameters, memory -/

/-- The three conditions have no latch (R167, R168). -/
def State.LatchesFit (s : State) : Prop := s.eu.latches &&& ~~~occurrenceMask = 0

/-- The line parameters lie in their ranges (section 3.9, R63). -/
def State.ParamsFit (s : State) : Prop := s.le.params.inRange (s.le.params.divisor.setWidth 16) = true

/-- The bytes of the frame store are in the canonical form. -/
def State.MemoryFits (s : State) : Prop := s.fs.mem.wf = true

/-! ## Nothing is left undone (R98, R100, R109) -/

/-- A cycle under way has an offer (R98, R100). -/
def State.OfferFormed (s : State) : Prop :=
  s.cu.state = .walking ∨ s.cu.state = .probePhase → s.offer.isSome = true

/-- An arbiter that acts has no candidate, or one that waits for blocks (R109, R116, R117). -/
def State.ArbiterAtRest (s : State) : Prop :=
  s.arbiterActs = true → s.candidate = none ∨ s.bufferWait = true

/-- The Cycle Unit has formed its offer and the arbiter has nothing left to do. -/
def State.Settled (s : State) : Prop := s.OfferFormed ∧ s.ArbiterAtRest

/-! ## When an access is taken (R190, R194) -/

/-- The next access is taken: RESET is not asserted, and no strobe is held from before its release. -/
def State.Taken (s : State) : Prop := s.pins.resetPin = false ∧ s.pins.strobeHeld = false

/-- The rows that are write accesses of the register window. -/
def isWriteRow : Instr → Bool
  | .lineStart | .lineStop | .lineHalt | .lineBreak | .schedRun | .schedHalt | .schedSwap => true
  | .stnEnable _ | .stnDisable _ | .chgPop | .rqClear | .rqSubmit | .rqCancel => true
  | .rqFlushUrgent | .rqFlushNormal | .rqFlushAll | .rqFlushBadOperand _ => true
  | .cpOpen | .cpRetire | .snapPin _ | .snapUnpin _ | .snapOpen _ => true
  | .tabReadStation | .tabReadSchedule | .tabReadLineParameters | .tabReadSnapshot => true
  | .tabReadRoute | .tabReadChangeQueueHead | .tabReadNoEntry => true
  | .tabWriteStation | .tabWriteSchedule | .tabWriteLineParameters | .tabWriteSnapshot => true
  | .tabWriteRoute | .tabWriteChangeQueueHead | .tabWriteNoEntry => true
  | .tbClear | .softReset | .unknownCommand _ _ | .dportWrite _ | .evLatchWrite _ => true
  | .evEnableWrite _ | .rqSelWrite _ | .rqTagWrite _ | .rqOvrWrite _ | .tabSelWrite _ => true
  | .tabWWrite _ _ | .registerWriteIgnored _ _ => true
  | _ => false

/-- The rows that are read accesses of the register window. -/
def isReadRow : Instr → Bool
  | .dportRead | .tbLoRead => true
  | _ => false

/-- The rows that counted time brings about (R173, R192). -/
def isTimedRow : Instr → Bool
  | .tick | .holdoffExpiry _ | .periodExpiry | .nextTickCycleStart | .quietReport => true
  | .activeReport | .replyWindowExpiry | .gapExpiry | .startReport _ => true
  | .characterReport _ _ _ _ | .breakReport | .firstStartReport | .echoReport _ _ _ _ => true
  | .releasedReport | .breakLowEnd | .breakDoneReport | .heldLowEnd => true
  | _ => false

/-- Check 1 and check 2 of R124, on the codes as staged: the result is BAD_OPERAND. -/
def State.OperandWrong (s : State) : Prop :=
  let g := s.ru.staging
  ¬(2 ≤ g.kind.toNat ∧ g.kind.toNat ≤ 6) ∨ 9 ≤ g.retry.toNat ∨
    (g.kind.toNat ≤ 4 ∧
      (4 ≤ g.blocks.toNat ∨ (s.station (indexOf g.station)).state = .unconfigured)) ∨
    (g.kind.toNat = 6 ∧ 0 < s.stagedLength)

end Sys2Proof.Machine
end

