-- ==== Sys2Proof/WellFormed.lean ====
section
/-! DEFINITION. Which terms of `Instr` are what their row says: the operand checks of the rows. -/

namespace Sys2Proof

/-- The 23 command codes of section 10.3.1. -/
def commandCodes : List Byte :=
  [0x10, 0x11, 0x12, 0x13, 0x20, 0x21, 0x22, 0x30, 0x31, 0x32, 0x40, 0x41, 0x42, 0x43, 0x50, 0x51,
   0x60, 0x61, 0x62, 0x70, 0x71, 0x80, 0xF0]

/-- The offsets at which a write is ignored: the registers section 10.2 marks read-only, and
offset 31 (R177). -/
def ignoredOffsets : List (Fin 32) :=
  [1, 2, 4, 8, 9, 10, 11, 12, 13, 14, 15, 16, 17, 20, 26, 27, 28, 29, 30, 31]

/-- The operands of RQ_FLUSH that name a selection (R181). -/
def flushOperands : List Byte := [1, 2, 3]

/-- An instruction is well formed when its operands are those its row speaks of. -/
def Instr.wf : Instr → Bool
  | .unknownCommand code _ => !commandCodes.contains code
  | .registerWriteIgnored offset _ => ignoredOffsets.contains offset
  | .rqFlushBadOperand operand => !flushOperands.contains operand
  | .lineStart | .lineStop | .lineHalt | .lineBreak | .schedRun | .schedHalt | .schedSwap
  | .stnEnable _ | .stnDisable _ | .chgPop | .rqClear | .rqSubmit | .rqCancel | .rqFlushUrgent
  | .rqFlushNormal | .rqFlushAll | .cpOpen | .cpRetire | .snapPin _ | .snapUnpin _ | .snapOpen _
  | .tabReadStation | .tabReadSchedule | .tabReadLineParameters | .tabReadSnapshot | .tabReadRoute
  | .tabReadChangeQueueHead | .tabReadNoEntry | .tabWriteStation | .tabWriteSchedule
  | .tabWriteLineParameters | .tabWriteSnapshot | .tabWriteRoute | .tabWriteChangeQueueHead
  | .tabWriteNoEntry | .tbClear | .softReset | .dportWrite _ | .dportRead | .tbLoRead
  | .evLatchWrite _ | .evEnableWrite _ | .rqSelWrite _ | .rqTagWrite _ | .rqOvrWrite _
  | .tabSelWrite _ | .tabWWrite _ _ | .hardReset _ | .resetRelease _ | .clockStop | .clockResume
  | .tick | .holdoffExpiry _ | .periodExpiry | .nextTickCycleStart | .quietReport | .activeReport
  | .replyWindowExpiry | .gapExpiry | .startReport _ | .characterReport _ _ _ _ | .breakReport
  | .firstStartReport | .echoReport _ _ _ _ | .releasedReport | .breakLowEnd | .breakDoneReport
  | .heldLowEnd => true

end Sys2Proof
end

