-- ==== Sys2Proof/Certificates/Slice0/Obligations.lean ====
section
/-! DEFINITION. The statements about the model. A statement of what a row does gives the whole next
state, so that it says at once what the row completes with and what it leaves unchanged. -/

open Sys2Proof Sys2Proof.Machine

/-! ## Steps, accesses and resets -/

/-- A step takes the command at the front of the queue. -/
def Obligations.StepTakesFront : Prop :=
  ∀ (c : Instr) (rest : List Instr) (s : State),
    step { s with pending := c :: rest } = exec c { s with pending := rest }

/-- With no command waiting, a step is one period of the reference clock (the model's choice, log
1): the prescaler, the tick counter and the sample-rate divider count it (R2, R163), or nothing does
while the clock stands or RESET is asserted (R173, R192). A period that ends the prescaler has the
effect of the row TICK; where it ends the divider too, tick or sample comes first, as a free value
says (log 8). At the divider's end a sample is taken of the level on the line, LRX: the part's own
driver's, the idle level, or another driver's (log 7). A character that is finished at an old divisor
is sampled on a divider of its own (R2), after the new divider's sample of that period (log 19). A
sample counts the line timers (R43, R44), then passes the transmitter, the receiver, the timers'
expiry and the quiet timer (R14), in this order (log 8), but for what a free value orders: a low level
that makes a QUIET monitor ACTIVE and an expiry; an expiry and a report that the sample may bring; a
report and what takes the receiver out of its state, a first start or the low period of a break that
waited for the release bit. A receiver that the sample has just aligned takes it as sample 0 (log 4).
An expiry, and the report of QUIET, have the effect of their rows; a timer that an order given while
the clock stood has left at the interval or above brings QUIET at its next sample (log 20). -/
def Obligations.EmptyQueueRunsTheClock : Prop :=
  (∀ s : State, s.pending = [] →
    (s.timeRuns = false → step s = .next s) ∧
    (s.timeRuns = true → step s = .next (refClock s) ∧
      ∃ t, step s = .next t ∧ t.pending = [] ∧ t.pins = s.pins ∧ t.le.params = s.le.params ∧
      (s.tb.prescaler < 1599 → t.tb = { s.tb with prescaler := s.tb.prescaler + 1 }) ∧
      (1599 ≤ s.tb.prescaler →
        t.tb = { s.tb with prescaler := 0, counter := s.tb.counter + 1 }) ∧
      (s.li.sampleLeft = 0 → t.li.sampleLeft = s.le.params.divisor.toNat) ∧
      (s.li.sampleLeft ≠ 0 → t.li.sampleLeft = s.li.sampleLeft - 1))) ∧
  (∀ s : State, s.timeRuns = true →
    let passed (t : State) : State := { t with lineIn := nextLine t.lineIn }
    let u : State := { s with choice := s.choice + 1 }
    (¬(s.li.sampleLeft = 0 ∧ 1599 ≤ s.tb.prescaler) →
      refClock s = passed (tickPeriod (samplePeriod s))) ∧
    (s.li.sampleLeft = 0 → 1599 ≤ s.tb.prescaler →
      refClock s = passed (samplePeriod (tickPeriod u)) ∨
      refClock s = passed (tickPeriod (samplePeriod u))) ∧
    (s.tb.prescaler < 1599 →
      tickPeriod s = { s with tb := { s.tb with prescaler := s.tb.prescaler + 1 } }) ∧
    (1599 ≤ s.tb.prescaler → exec .tick s = .next (tickPeriod s))) ∧
  (∀ s : State,
    let taken : State :=
      { s with li := { s.li with sampleLeft := s.le.params.divisor.toNat } }
    let waited : State := { s with li := { s.li with sampleLeft := s.li.sampleLeft - 1 } }
    let own (r : OldRate) (left : Nat) (v : State) : State :=
      { v with li := { v.li with oldRate := some { r with left := left } } }
    (s.li.oldRate = none →
      (s.li.sampleLeft = 0 → samplePeriod s = sampleWithRx s.lrx taken) ∧
      (s.li.sampleLeft ≠ 0 → samplePeriod s = waited)) ∧
    (∀ r, s.li.oldRate = some r → s.li.sampleLeft ≠ 0 →
      (r.left ≠ 0 → samplePeriod s = own r (r.left - 1) waited) ∧
      (r.left = 0 → samplePeriod s = rxSample s.lrx (own r r.divisor waited))) ∧
    (s.li.oldRate ≠ none → s.li.sampleLeft = 0 →
      let v := sampleWithoutRx s.lrx taken
      (v.li.oldRate = none → samplePeriod s = v) ∧
      ∀ r, v.li.oldRate = some r →
        (r.left ≠ 0 → samplePeriod s = own r (r.left - 1) v) ∧
        (r.left = 0 → samplePeriod s = rxSample s.lrx (own r r.divisor v)))) ∧
  (∀ s : State,
    let own : Bool := if s.li.lde then s.li.ltx else true
    (s.lineIn = [] → s.lrx = own ∧ nextLine s.lineIn = []) ∧
    ∀ r rest, s.lineIn = r :: rest →
      s.lrx = r.level.getD own ∧
      (r.periods = 0 → nextLine s.lineIn = rest) ∧
      (r.periods ≠ 0 → nextLine s.lineIn = { r with periods := r.periods - 1 } :: rest)) ∧
  (∀ (s : State) (level : Bool),
    let a := s.le.attempt
    let counted : State :=
      { s with le := { s.le with
        attempt := { a with window := a.window.map (· - 1), gap := a.gap.map (· - 1) } } }
    let u : State := { s with choice := s.choice + 1 }
    let low : Prop := level = false ∧ s.lineTimerDue = true ∧ s.li.monitor = .quiet
    let sent := txSample level s
    sampleWithRx level s =
      quietSample level s.li.lde (lineSample level (lowBeforeExpiry level counted)) ∧
    sampleWithoutRx level s =
      quietSample level s.li.lde
        (expireLineTimers (txSample level (lowBeforeExpiry level counted))) ∧
    (low →
      lowBeforeExpiry level s = u ∨
      lowBeforeExpiry level s =
        { u with li := { s.li with monitor := .active, quietTimer := 0 } }) ∧
    (¬low → lowBeforeExpiry level s = s) ∧
    (s.li.takesReceiver = true → s.li.rx.reportDue = true →
      lineSample level s = txSample level (receiveAndExpire level u) ∨
      lineSample level s = txThenRx level u) ∧
    (s.li.takesReceiver = false ∨ s.li.rx.reportDue = false →
      lineSample level s = txThenRx level s) ∧
    (justAligned s.li sent.li = true →
      txThenRx level s =
        expireLineTimers { sent with li := { sent.li with lastSample := level } }) ∧
    (justAligned s.li sent.li = false → txThenRx level s = receiveAndExpire level sent) ∧
    (s.lineTimerDue = true → s.li.rx.mayReport = true →
      receiveAndExpire level s = rxSample level (expireLineTimers u) ∨
      receiveAndExpire level s = expireLineTimers (rxSample level u)) ∧
    (s.lineTimerDue = false ∨ s.li.rx.mayReport = false →
      receiveAndExpire level s = expireLineTimers (rxSample level s)) ∧
    (s.lineTimerDue = true ↔ a.window = some 0 ∨ a.gap = some 0) ∧
    (s.timeRuns = true → s.le.state = .awaiting → a.window = some 0 →
      exec .replyWindowExpiry s = .next (expireLineTimers s)) ∧
    (s.timeRuns = true → s.le.state = .receiving → a.gap = some 0 →
      exec .gapExpiry s = .next (expireLineTimers s)) ∧
    (¬(s.le.state = .awaiting ∧ a.window = some 0) → ¬(s.le.state = .receiving ∧ a.gap = some 0) →
      expireLineTimers s = s)) ∧
  ((∀ l : LineInterface,
      l.takesReceiver = true ↔
        (∃ n, n ≤ 1 ∧ l.tx = .turnaround n) ∨
          (l.breakWaiting = true ∧ ∃ n, 15 ≤ n ∧ l.tx = .releaseBit n)) ∧
    (∀ rx : Rx,
      (rx.mayReport = true ↔
        (∃ h, rx = .hunting (some (8, h))) ∨ ∃ votes, rx = .heldLow 344 votes true) ∧
      (rx.reportDue = true ↔
        rx.mayReport = true ∨ ∃ h foreign, rx = .assembling 168 h foreign)) ∧
    (∀ before after : LineInterface,
      justAligned before after = true ↔
        (∃ n votes armed, after.rx = .heldLow n votes armed) ∧ after.rx ≠ before.rx ∧
          after.tx ≠ before.tx ∧ before.tx ≠ .released ∧ ∀ n, before.tx ≠ .turnaround n)) ∧
  (∀ (s : State) (level driven : Bool),
    let n := s.li.quietTimer + 1
    let interval := s.le.params.quiet.toNat * 176
    (level = false ∨ driven = true ∨ s.li.lde = true →
      quietSample level driven s =
        { s with li := { s.li with monitor := .active, quietTimer := 0 } }) ∧
    (level = true → driven = false → s.li.lde = false →
      (s.li.monitor = .quiet ∨ n < interval →
        quietSample level driven s = { s with li := { s.li with quietTimer := n } }) ∧
      (s.li.monitor = .active → interval ≤ n →
        quietSample level driven s =
          quietReport { s with li := { s.li with quietTimer := n } }) ∧
      (s.timeRuns = true → s.li.monitor = .active → n = interval →
        exec .quietReport s = .next (quietSample level driven s))))

/-- Every command is taken in every state (R179). That the rows of events, pins and the clock are
taken in every state too (log 2), and that every row leaves the queue alone, HARD_RESET included
(log 16), are the model's choices. -/
def Obligations.EveryCommandIsTaken : Prop :=
  ∀ (c : Instr) (s : State), ∃ t, exec c s = .next t ∧ t.pending = s.pending

/-- RESET and the clock (R190, R192 to R194). The bytes of the blocks outlast a RESET that is no
power-on (R161); that they are blank after power-on (log 5), and that the other drivers' levels (log
7), the count of free choices (log 8) and the queue (log 16) outlast RESET, are the model's choices,
and so are a release without RESET asserted, which does nothing, and the clock's rows while RESET is
asserted (log 10), as is what `State.reset` holds beside the spec's values (log 4). When the clock
runs again, a first start bit that only waited for it begins (R8, R193, log 14). An access that is
not taken changes nothing (R190, R194), and counted time brings nothing about while it does not run
(R173, R192). -/
def Obligations.ResetClockAndLostAccesses : Prop :=
  (∀ (s : State) (powerOn held : Bool),
    exec (.hardReset powerOn) s = .next
      { State.reset with
        fs := { FrameStore.reset with mem := if powerOn then [] else s.fs.mem }
        pins := { resetPin := true, clock := s.pins.clock, strobeHeld := false, dataBus := none }
        lineIn := s.lineIn, choice := s.choice, pending := s.pending } ∧
    (s.pins.resetPin = true →
      exec (.resetRelease held) s =
        .next { s with pins := { s.pins with resetPin := false, strobeHeld := held } }) ∧
    (s.pins.resetPin = false → exec (.resetRelease held) s = .next s) ∧
    exec .clockStop s = .next { s with pins := { s.pins with clock := false } } ∧
    (s.li.tx ≠ .turnaround 0 ∨ s.li.supplied = none →
      exec .clockResume s = .next { s with pins := { s.pins with clock := true } }) ∧
    (∀ c, s.pins.resetPin = false → s.li.tx = .turnaround 0 → s.li.supplied = some c →
      exec .clockResume s =
        exec .firstStartReport { s with pins := { s.pins with clock := true } })) ∧
  (∀ (c : Instr) (s : State),
    (s.pins.resetPin = true → isWriteRow c = true → exec c s = .next s) ∧
    (s.pins.resetPin = true → isReadRow c = true →
      exec c s = .next { s with pins := { s.pins with dataBus := none } }) ∧
    (s.pins.resetPin = false → s.pins.strobeHeld = true → isWriteRow c = true →
      exec c s = .next { s with pins := { s.pins with strobeHeld := false } }) ∧
    (s.pins.resetPin = false → s.pins.strobeHeld = true → isReadRow c = true →
      exec c s = .next { s with pins := { s.pins with strobeHeld := false, dataBus := none } }) ∧
    (s.timeRuns = false → isTimedRow c = true → exec c s = .next s))

/-- The values the spec gives for a hard reset, block by block (R16, R64, R89, R107, R120, R142,
R161, R173, R175, R190). That the moment of the reset is sample 0 of the receiver's alignment is the
model's reading (log 4). -/
def Obligations.ResetLeavesSpecValues : Prop :=
  let s := State.reset
  (s.li.lde = false ∧ s.li.ltx = true ∧ s.li.tx = .released ∧ s.li.supplied = none ∧
    s.li.rx = .heldLow 0 [] false ∧ s.li.monitor = .active ∧ s.li.quietTimer = 0) ∧
  (s.le.state = .stopped ∧ s.le.current = none ∧ s.le.deferred = [] ∧ s.le.stopMark = false ∧
    s.le.attempt.window = none ∧ s.le.attempt.gap = none ∧
    s.le.params =
      { divisor := 103, turnaround := 2, window := 20, gap := 3, quiet := 4, breakLength := 2,
        holdoff := 50, share := 4, threshold := 1, period := 1000 }) ∧
  ((∀ i, s.station i =
      { address := 0, expectedClass := 0, retryLimit := 0, busyLimit := 0, failLimit := 0,
        replyBlocks := 0, probeInterval := 0, watch := false, state := .unconfigured,
        failCount := 0, countdown := 0, toggle := false, lastReply := none, lastClass := none }) ∧
    s.st.changes = [] ∧ s.registerValue 29 = 0) ∧
  (s.cu.state = .halted ∧ s.offer = none ∧ s.cu.active = .a ∧ s.cu.swapPending = false ∧
    s.cu.startPending = false ∧ s.cu.dispatched = false ∧ s.cu.timer = none ∧ s.cu.pointer = 0 ∧
    s.cu.probeList = [] ∧ s.cu.probePos = 0 ∧ s.cu.bankA.length = 1 ∧ s.cu.bankB.length = 1 ∧
    ∀ n : Fin 64,
      let slot : Slot := { station := 0, kind := .poll, selector := 0, enabled := false }
      s.cu.bankA.slots.get n = slot ∧ s.cu.bankB.slots.get n = slot) ∧
  (s.pollRun = 0 ∧ s.candidate = none ∧ s.bufferWait = false) ∧
  (s.ru.urgent = [] ∧ s.ru.normal = [] ∧ s.registerValue 5 = 0 ∧ s.registerValue 6 = 0 ∧
    s.registerValue 7 = 8 ∧ s.registerValue 8 = 0 ∧ s.cq.ring = [] ∧ s.cq.reserved = 0) ∧
  (s.freeCount = 128 ∧ (∀ k : Fin 128, s.fs.free[k.val]? = some k) ∧
    (∀ i, (s.snapshot i).current = none ∧ (s.snapshot i).next = none ∧
      (s.snapshot i).generation = 0 ∧ (s.snapshot i).pinned = false) ∧ s.fs.cursor = .staging ∧
    s.registerValue 4 = 96) ∧
  (s.tb.prescaler = 0 ∧ s.tb.counter = 0 ∧ s.tb.hold = 0) ∧
  (s.eu.latches = 0 ∧ s.eu.enables = 0 ∧
    (∀ n, s.eu.routes.get n = { level := 0, output := .a }) ∧ s.events = 0 ∧
    s.irq .a = false ∧ s.irq .b = false ∧ s.irqPin .a = true ∧ s.irqPin .b = true ∧
    s.registerValue 20 = 0) ∧
  (s.cres = 0 ∧ s.tabSel = 0 ∧ ∀ n, s.bi.image.get n = 0)

/-- The result of a command: CRES takes the result code and the command code, and any result but
DONE raises COMMAND_ERROR, E10 (R179, R180). A code outside the command table, an RQ_FLUSH operand
that names no selection and a station index above 31 answer BAD_OPERAND (R179, R181); a write of a
read-only register or of offset 31 is ignored (R177). -/
def Obligations.ResultsAndUnusedCodes : Prop :=
  (∀ (s : State) (code : Byte) (r : ResultCode),
    s.answer code r =
      { s with
        bi := { s.bi with result := r, answered := code }
        eu := { s.eu with
          latches := if r = .done then s.eu.latches else s.eu.latches ||| 0x400#12 } } ∧
    (s.answer code r).registerValue 1 = code ++ (0#4 ++ r.code) ∧
    [ResultCode.done, .refusedState, .full, .noBuffer, .badOperand, .duplicate, .notFound, .empty,
      .entryBusy, .already].map ResultCode.code = [0, 1, 2, 3, 4, 5, 6, 7, 8, 9]) ∧
  (∀ s : State, s.Taken →
    (∀ code operand, code ∉ commandCodes →
      exec (.unknownCommand code operand) s = .next (s.answer code .badOperand)) ∧
    (∀ operand, operand ∉ [1, 2, 3] →
      exec (.rqFlushBadOperand operand) s = .next (s.answer 0x43 .badOperand)) ∧
    (∀ operand : Byte, 32 ≤ operand.toNat →
      exec (.stnEnable operand) s = .next (s.answer 0x30 .badOperand) ∧
      exec (.stnDisable operand) s = .next (s.answer 0x31 .badOperand) ∧
      exec (.snapPin operand) s = .next (s.answer 0x60 .badOperand) ∧
      exec (.snapUnpin operand) s = .next (s.answer 0x61 .badOperand) ∧
      exec (.snapOpen operand) s = .next (s.answer 0x62 .badOperand)) ∧
    ∀ offset value, offset ∈ ignoredOffsets →
      exec (.registerWriteIgnored offset value) s = .next s)

/-- SOFT_RESET in every block (R17, R65, R90, R108, R121, R143, R162, R174, R176, R189): what a
transaction, a request, a record or a chain holds is gone, an active station is sought again, and
the rest is kept. A break cut after 22 bit times of low sets every toggle to 0 (R34). That the moment
of the command is sample 0 of the receiver's alignment is the model's reading (log 4); that it ends a
character at an old divisor is its choice (log 19). -/
def Obligations.SoftReset : Prop :=
  ∀ s : State, s.Taken → ∃ st : StationTable,
    exec .softReset s = .next
      { s with
        li := { s.li with
          tx := .released, supplied := none, breakWaiting := false, rx := .heldLow 0 [] false,
          oldRate := none }
        le := { s.le with
          state := .stopped, current := none, attempt := Attempt.blank, deferred := [],
          expired := [], stopMark := false }
        st := st
        cu := { s.cu with
          state := .halted, pointer := 0, probeList := [], probePos := 0, timer := none,
          startPending := false, dispatched := false }
        pollRun := 0
        ru := RequestUnit.reset
        cq := CompletionQueue.reset
        fs := { FrameStore.reset with mem := s.fs.mem }
        eu := { s.eu with latches := 0 }
        bi := { s.bi with result := .done, answered := 0xF0 } } ∧
    st.changes = [] ∧
    ∀ i : Fin 32,
      (st.entries.get i =
        if (s.station i).state = .unconfigured ∨ (s.station i).state = .disabled then
          { s.station i with toggle := (s.station i).toggle && !s.li.cutIsCertain }
        else
          { s.station i with
            state := .probing, failCount := 0, countdown := 0, toggle := false, lastReply := none,
            lastClass := none })

/-! ## Line commands -/

/-- LINE_START (R58): in STOPPED the engine becomes IDLE and the arbiter may choose; with the
monitor ACTIVE it does not yet, and the deferred list is as it was. In any other state it is
refused. -/
def Obligations.LineStart : Prop :=
  ∀ s : State, s.Taken →
    (s.le.state = .stopped →
      exec .lineStart s =
        .next (({ s with le := { s.le with state := .idle } } : State).settle.answer 0x10 .done)) ∧
    (s.le.state = .stopped → s.OfferFormed → s.li.monitor = .active →
      exec .lineStart s =
        .next (({ s with le := { s.le with state := .idle } } : State).answer 0x10 .done)) ∧
    (s.le.state ≠ .stopped → exec .lineStart s = .next (s.answer 0x10 .refusedState))

/-- LINE_STOP (R59) and LINE_BREAK (R62), with the break order of R13: at once when the transmitter
is at rest, else kept until its work is done. While the clock stands the quiet timer keeps its value
(R192). That a break begun between two sample clocks counts its samples from the order's moment (log
18), that while the clock runs this moment resets the quiet timer, and that the monitor is ACTIVE from
it (log 20), and that an order during the stop bit of a last character waits like one during the
release bit (log 23), are the model's choices. -/
def Obligations.LineStopAndBreak : Prop :=
  ∀ s : State, s.Taken →
    (s.le.state = .idle →
      exec .lineStop s = .next
        (({ s with
          le := { s.le with state := .stopped, stopMark := false }
          eu := { s.eu with latches := s.eu.latches ||| 0x200#12 } } : State).answer 0x11 .done)) ∧
    (s.le.state = .stopped → exec .lineStop s = .next (s.answer 0x11 .done)) ∧
    (s.le.state ≠ .idle → s.le.state ≠ .stopped →
      exec .lineStop s =
        .next (({ s with le := { s.le with stopMark := true } } : State).answer 0x11 .done)) ∧
    (s.le.state = .idle ∨ s.le.state = .stopped → s.li.tx = .released →
      exec .lineBreak s = .next
        (({ s with
          li := { s.li with
            tx := .breakLow 0, breakWaiting := false, rx := .heldLow 0 [] false, oldRate := none,
            monitor := .active, quietTimer := if s.pins.clock then 0 else s.li.quietTimer }
          le := { s.le with
            state := .breaking, breakFromStopped := decide (s.le.state = .stopped) } }
          : State).answer 0x13 .done)) ∧
    (s.le.state = .idle ∨ s.le.state = .stopped → s.li.tx ≠ .released →
      exec .lineBreak s = .next
        (({ s with
          li := { s.li with breakWaiting := true }
          le := { s.le with
            state := .breaking, breakFromStopped := decide (s.le.state = .stopped) } }
          : State).answer 0x13 .done)) ∧
    (s.le.state ≠ .idle → s.le.state ≠ .stopped →
      exec .lineBreak s = .next (s.answer 0x13 .refusedState))

/-- LINE_HALT (R61): in STOPPED nothing; else the engine is STOPPED and LINE_STOPPED (E9) raised. A
request ends ABORTED with its counts, a cycle item is dropped, and the blocks of both are freed; a
transmission is withdrawn (R12), a break is cut (R13), which after 22 bit times of low sets every
toggle to 0 (R34). What the withdraw order, the end-break order and a break's certain recognition
mean, phase by phase of the transmitter (R12, R13, R34). An end-break order before the low period
gives up a break that waits, and one during the high bit time lets that run on (the model's choices,
log 9). That the sample counts of an order between
two sample clocks, the 22 bit times (352 samples) of a cut break among them, run from the order's
moment as sample 0 is the model's choice too (log 18). -/
def Obligations.LineHalt : Prop :=
  (∀ s : State, s.Taken →
    (s.le.state = .stopped → exec .lineHalt s = .next (s.answer 0x12 .done)) ∧
    (s.le.state = .idle → s.le.current = none →
      exec .lineHalt s = .next
        (({ s with
          le := { s.le with state := .stopped, stopMark := false }
          eu := { s.eu with latches := s.eu.latches ||| 0x200#12 } } : State).answer 0x12 .done)) ∧
    (∀ x tag, s.le.state.holds = true → s.le.current = some x → x.origin = .request tag →
      exec .lineHalt s = .next
        (({ s with
          li :=
            if s.le.state = .turnaround ∨ s.le.state = .sending then s.li.withdraw else s.li
          le := { s.le with
            state := .stopped, stopMark := false, current := none, attempt := Attempt.blank }
          fs := { s.fs with free := s.fs.free ++ x.payload ++ x.reservation }
          cq :=
            { ring := s.cq.ring ++
                [{ tag := tag, kind := x.kind, station := x.target, outcome := .aborted,
                   attempts := x.attempts, busyCount := x.busyCount, cause := none,
                   replyKind := none, replyLength := none, chain := [], nakReason := none,
                   cancel := x.cancel, stamp := s.tb.counter }]
              reserved := s.cq.reserved - 1 }
          eu := { s.eu with latches := s.eu.latches ||| 0x001#12 ||| 0x200#12 } }
          : State).answer 0x12 .done)) ∧
    (∀ x, s.le.state.holds = true → s.le.current = some x → x.isRequest = false →
      exec .lineHalt s = .next
        (({ s with
          li :=
            if s.le.state = .turnaround ∨ s.le.state = .sending then s.li.withdraw else s.li
          le := { s.le with
            state := .stopped, stopMark := false, current := none, attempt := Attempt.blank }
          fs := { s.fs with free := s.fs.free ++ x.payload ++ x.reservation }
          eu := { s.eu with latches := s.eu.latches ||| 0x200#12 } }
          : State).answer 0x12 .done)) ∧
    (s.le.state = .breaking → s.le.current = none → s.li.cutIsCertain = false →
      exec .lineHalt s = .next
        (({ s with
          li := s.li.endBreak
          le := { s.le with state := .stopped, stopMark := false }
          eu := { s.eu with latches := s.eu.latches ||| 0x200#12 } } : State).answer 0x12 .done)) ∧
    (s.le.state = .breaking → s.le.current = none → s.li.cutIsCertain = true → ∃ st,
      exec .lineHalt s = .next
        (({ s with
          li := s.li.endBreak
          le := { s.le with state := .stopped, stopMark := false }
          st := st
          eu := { s.eu with latches := s.eu.latches ||| 0x200#12 } } : State).answer 0x12 .done) ∧
      st.changes = s.st.changes ∧
      ∀ i : Fin 32, st.entries.get i = { s.station i with toggle := false })) ∧
  (∀ l : LineInterface,
    (∀ n, l.tx = .turnaround n →
      l.withdraw = { l with tx := .releaseBit 0, supplied := none } ∧
      l.endBreak = { l with breakWaiting := false } ∧ l.cutIsCertain = false) ∧
    (∀ c n e, l.tx = .sending c n e →
      l.withdraw = { l with supplied := none } ∧
      l.endBreak = { l with breakWaiting := false } ∧ l.cutIsCertain = false) ∧
    (∀ n, l.tx = .breakLow n →
      l.endBreak = { l with tx := .breakHigh 0, breakWaiting := false } ∧
      (l.cutIsCertain = true ↔ 352 ≤ n)) ∧
    (l.tx = .released ∨ (∃ n, l.tx = .releaseBit n) ∨ (∃ n, l.tx = .breakHigh n) →
      l.withdraw = l ∧ l.endBreak = { l with breakWaiting := false } ∧ l.cutIsCertain = false))

/-! ## Schedule commands and the cycle -/

/-- SCHED_RUN (R105) and SCHED_HALT (R106). The walk pointer, the probe list and the probe position
that SCHED_HALT discards stand at 0, empty and 0 (the model's reading, log 15). -/
def Obligations.ScheduleRunAndHalt : Prop :=
  ∀ s : State, s.Taken →
    (s.cu.state = .halted →
      exec .schedRun s = .next
        (({ s with
          cu := { s.cu with
            active := if s.cu.swapPending then s.cu.active.other else s.cu.active
            swapPending := false
            startPending := false
            timer := if s.le.params.period = 0 then none else some s.le.params.period } }
          : State).cycleStart.settle.answer 0x20 .done)) ∧
    (s.cu.state ≠ .halted → exec .schedRun s = .next (s.answer 0x20 .refusedState)) ∧
    (s.cu.state ≠ .halted →
      exec .schedHalt s = .next
        (({ s with
          cu := { s.cu with
            state := .halted, pointer := 0, probeList := [], probePos := 0, startPending := false,
            dispatched := false, timer := none } } : State).settle.answer 0x21 .done)) ∧
    (s.cu.state = .halted → exec .schedHalt s = .next (s.answer 0x21 .done))

/-- SCHED_SWAP (R94), with the exchange of R95. -/
def Obligations.SchedSwap : Prop :=
  ∀ s : State, s.Taken →
    (s.cu.state = .halted →
      exec .schedSwap s = .next
        (({ s with cu := { s.cu with active := s.cu.active.other, swapPending := false } }
          : State).answer 0x22 .done)) ∧
    (s.cu.state ≠ .halted → s.cu.swapPending = false →
      exec .schedSwap s =
        .next (({ s with cu := { s.cu with swapPending := true } } : State).answer 0x22 .done)) ∧
    (s.cu.state ≠ .halted → s.cu.swapPending = true →
      exec .schedSwap s = .next (s.answer 0x22 .already)) ∧
    BankName.other .a = .b ∧ BankName.other .b = .a

/-- A cycle start counts the countdowns of the OFFLINE stations down, then lists the stations to
probe and enters WALKING (R75, R96, R97). The walk reads the active bank, which is bank A while the
selector is A and bank B while it is B (R91). It offers the first slot from the pointer on that is
enabled and whose station is ONLINE or DEGRADED, and passes over those before it; a walk with none
enters PROBE_PHASE (R98). The probe phase offers the first listed station from its position on that
is PROBING or OFFLINE; with none it is done and the cycle ends (R100). The cycle end (R101):
CYCLE_END (E4) is raised, a pending swap is made, and the next cycle starts when a start is pending,
or when the timer is stopped and the cycle dispatched something; else the unit waits. A start with
the timer stopped loads it first (R102). An offer that is taken moves the pointer or the position on
by one, sets the dispatched-in-cycle mark, reloads the countdown of an OFFLINE station that is
probed, and the next offer is formed (R75, R99, R100). -/
def Obligations.CycleRules : Prop :=
  (∀ s : State, ∃ (st : StationTable) (list : List (Fin 32)),
    s.cycleStart =
      { s with
        st := st
        cu := { s.cu with
          state := .walking, pointer := 0, probeList := list, probePos := 0,
          dispatched := false } } ∧
    st.changes = s.st.changes ∧
    (∀ i, st.entries.get i =
      if (s.station i).state = .offline ∧ (s.station i).countdown ≠ 0 then
        { s.station i with countdown := (s.station i).countdown - 1 }
      else s.station i) ∧
    (∀ i, i ∈ list ↔ (st.entries.get i).state = .probing ∨
      ((st.entries.get i).state = .offline ∧ (st.entries.get i).countdown = 0)) ∧
    list.Pairwise fun i j => i.val < j.val) ∧
  (∀ s : State,
    (s.cu.active = .a → s.cu.activeBank = s.cu.bankA) ∧
    (s.cu.active = .b → s.cu.activeBank = s.cu.bankB) ∧
    (∀ i, s.station i = s.st.entries.get i) ∧
    (∀ (p : Nat) (x : Slot), s.cu.state = .walking → s.cu.pointer ≤ p →
      p < s.cu.activeBank.length.toNat → s.cu.activeBank.slots[p]? = some x →
      x.enabled = true → (s.station x.station).state.polled = true →
      (∀ j, s.cu.pointer ≤ j → j < p → s.slotQualifies j = false) →
      s.formOffer = { s with cu := { s.cu with pointer := p } } ∧
      s.formOffer.offer = some (.slot x)) ∧
    (∀ (p : Nat) (i : Fin 32), s.cu.state = .probePhase → s.cu.probePos ≤ p →
      s.cu.probeList[p]? = some i → (s.station i).state.sought = true →
      (∀ j, s.cu.probePos ≤ j → j < p → s.probeQualifies j = false) →
      s.formOffer = { s with cu := { s.cu with probePos := p } } ∧
      s.formOffer.offer = some (.probe i)) ∧
    (s.cu.state = .walking →
      (∀ j, s.cu.pointer ≤ j → j < s.cu.activeBank.length.toNat → s.slotQualifies j = false) →
      s.formOffer =
        ({ s with
          cu := { s.cu with
            pointer := max s.cu.pointer s.cu.activeBank.length.toNat, state := .probePhase } }
          : State).formOffer) ∧
    (s.cu.state = .probePhase →
      (∀ j, s.cu.probePos ≤ j → j < s.cu.probeList.length → s.probeQualifies j = false) →
      s.formOffer =
        ({ s with
          cu := { s.cu with probePos := max s.cu.probePos s.cu.probeList.length } }
          : State).cycleEnd.formOffer) ∧
    (∀ j, s.slotQualifies j = true ↔
      ∃ x : Slot, s.cu.activeBank.slots[j]? = some x ∧ x.enabled = true ∧
        (s.station x.station).state.polled = true) ∧
    (∀ j, s.probeQualifies j = true ↔
      ∃ i, s.cu.probeList[j]? = some i ∧ (s.station i).state.sought = true) ∧
    (∀ st : StationState, (st.polled = true ↔ st = .online ∨ st = .degraded) ∧
      (st.sought = true ↔ st = .probing ∨ st = .offline)) ∧
    (s.cu.state = .halted ∨ s.cu.state = .waiting → s.formOffer = s ∧ s.offer = none) ∧
    (∀ x, s.takeOffer (.slot x) =
      ({ s with cu := { s.cu with pointer := s.cu.pointer + 1, dispatched := true } }
        : State).formOffer) ∧
    (∀ i,
      let e := s.station i
      s.takeOffer (.probe i) =
        ({ s with
          st := { s.st with
            entries :=
              if e.state = .offline then
                s.st.entries.set i { e with countdown := e.probeInterval }
              else s.st.entries }
          cu := { s.cu with probePos := s.cu.probePos + 1, dispatched := true } }
          : State).formOffer)) ∧
  (∀ s : State,
    let s1 : State :=
      { s with
        cu := { s.cu with
          active := if s.cu.swapPending then s.cu.active.other else s.cu.active
          swapPending := false }
        eu := { s.eu with latches := s.eu.latches ||| 0x010#12 } }
    let loaded : Option (BitVec 16) :=
      if s.cu.timer = none then
        if s.le.params.period = 0 then none else some s.le.params.period
      else s.cu.timer
    (s.cu.startPending = true →
      s.cycleEnd =
        ({ s1 with cu := { s1.cu with startPending := false, timer := loaded } } : State).cycleStart) ∧
    (s.cu.startPending = false → s.cu.timer = none → s.cu.dispatched = true →
      s.cycleEnd = ({ s1 with cu := { s1.cu with timer := loaded } } : State).cycleStart) ∧
    (s.cu.startPending = false → (s.cu.timer ≠ none ∨ s.cu.dispatched = false) →
      s.cycleEnd = { s1 with cu := { s1.cu with state := .waiting } }))

/-! ## Stations -/

/-- STN_ENABLE (R79) and STN_DISABLE (R80) of station i. -/
def Obligations.StationEnableDisable : Prop :=
  ∀ (s : State) (i : Fin 32), s.Taken →
    let e := s.station i
    let operand : Byte := BitVec.ofNat 8 i.val
    (e.state = .disabled →
      exec (.stnEnable operand) s = .next
        (({ s with
          st :=
            { entries := s.st.entries.set i
                { e with
                  state := .probing, failCount := 0, countdown := 0, lastReply := none,
                  lastClass := none }
              changes := notedIn s.st.changes i .disabled .probing s.tb.counter } }
          : State).settle.answer 0x30 .done)) ∧
    (e.state = .unconfigured →
      exec (.stnEnable operand) s = .next (s.answer 0x30 .refusedState) ∧
      exec (.stnDisable operand) s = .next (s.answer 0x31 .refusedState)) ∧
    (e.state ≠ .disabled → e.state ≠ .unconfigured →
      exec (.stnEnable operand) s = .next (s.answer 0x30 .already) ∧
      exec (.stnDisable operand) s = .next
        (({ s with
          st :=
            { entries := s.st.entries.set i { e with state := .disabled }
              changes := notedIn s.st.changes i e.state .disabled s.tb.counter } }
          : State).settle.answer 0x31 .done)) ∧
    (e.state = .disabled → exec (.stnDisable operand) s = .next (s.answer 0x31 .already))

/-- The change queue: a first notice goes to the tail (R85), a further change is merged into the
notice the station has (R86), and CHG_POP removes the head (R87). -/
def Obligations.ChangeNotices : Prop :=
  (∀ (q : List Notice) (i : Fin 32) (old new : StationState) (stamp : Stamp),
    (∀ n ∈ q, n.station ≠ i) →
    notedIn q i old new stamp =
      q ++ [{ station := i, firstOld := old, latestNew := new, count := 1, stamp := stamp }]) ∧
  (∀ (q1 q2 : List Notice) (n : Notice) (old new : StationState) (stamp : Stamp),
    ((q1 ++ n :: q2).map Notice.station).Nodup →
    notedIn (q1 ++ n :: q2) n.station old new stamp =
      q1 ++ { n with
        latestNew := new
        count := if n.count = 255 then 255 else n.count + 1
        stamp := stamp } :: q2) ∧
  ∀ s : State, s.Taken →
    (s.st.changes = [] → exec .chgPop s = .next (s.answer 0x32 .empty)) ∧
    ∀ n q, s.st.changes = n :: q →
      exec .chgPop s =
        .next (({ s with st := { s.st with changes := q } } : State).answer 0x32 .done)

/-- What a station report leaves of an entry (R70 to R73, R76, R77): the class, the fail count
against the fail limit, the countdown, the toggle and what was last heard; a report of class neither
leaves it as it is (R73). A station report is taken whole: the entry, a notice when the state
changed (R78, R85) and STATION_OFFLINE (E3) when it became OFFLINE (R78). A DISABLED entry takes
none (R69), and a BUSY report leaves only the last reply kind (R73). -/
def Obligations.StationReports : Prop :=
  (∀ (e : Station) (k : Option ReplyKind) (tg : Option Bool) (c : Byte),
    let answered (x : Station) : Station := { x with toggle := tg.getD x.toggle, lastReply := k }
    let plain : Report := { cls := .answered, kind := k, toggle := tg, identClass := none }
    let ident : Report := { cls := .answered, kind := k, toggle := tg, identClass := some c }
    let failed : Report := { cls := .failed, kind := k, toggle := tg, identClass := none }
    (e.state = .online ∨ e.state = .degraded →
      e.afterReport plain = answered { e with state := .online, failCount := 0 }) ∧
    (e.state = .probing ∨ e.state = .mismatched →
      e.afterReport plain = answered { e with failCount := 0 }) ∧
    (e.state = .offline →
      e.afterReport plain = answered { e with state := .probing, failCount := 0, countdown := 0 }) ∧
    (e.expectedClass = 0 ∨ e.expectedClass = c →
      e.afterReport ident = answered { e with
        state := .online, failCount := 0, lastClass := some c,
        countdown := if e.state = .offline then 0 else e.countdown }) ∧
    (e.expectedClass ≠ 0 → e.expectedClass ≠ c →
      e.afterReport ident = answered { e with
        state := .mismatched, failCount := 0, lastClass := some c,
        countdown := if e.state = .offline then 0 else e.countdown }) ∧
    (e.state = .online → 1 < e.failLimit.toNat →
      e.afterReport failed = { e with state := .degraded, failCount := 1 }) ∧
    (e.state = .online → e.failLimit.toNat ≤ 1 →
      e.afterReport failed =
        { e with state := .offline, failCount := 1, countdown := e.probeInterval }) ∧
    (e.state = .degraded ∨ e.state = .probing →
      (e.failCount + 1).toNat < e.failLimit.toNat →
      e.afterReport failed = { e with failCount := e.failCount + 1 }) ∧
    (e.state = .degraded ∨ e.state = .probing →
      e.failLimit.toNat ≤ (e.failCount + 1).toNat →
      e.afterReport failed =
        { e with state := .offline, failCount := e.failCount + 1, countdown := e.probeInterval }) ∧
    (e.state = .offline → e.afterReport failed = { e with countdown := e.probeInterval }) ∧
    (e.state = .mismatched → e.afterReport failed = e) ∧
    (∀ r : Report, r.cls = .neither → e.afterReport r = e)) ∧
  (∀ (s : State) (i : Fin 32) (r : Report),
    let e := s.station i
    let e' := e.afterReport r
    (e.state.active = true →
      s.stationReport i r =
        { s with
          st :=
            { entries := s.st.entries.set i e'
              changes :=
                if e.state = e'.state then s.st.changes
                else notedIn s.st.changes i e.state e'.state s.tb.counter }
          eu := { s.eu with
            latches :=
              if e'.state = .offline ∧ e.state ≠ .offline then s.eu.latches ||| 0x008#12
              else s.eu.latches } }) ∧
    (e.state.active = true →
      s.busyReport i =
        { s with
          st := { s.st with entries := s.st.entries.set i { e with lastReply := some .busy } } }) ∧
    (e.state.active = false → s.stationReport i r = s ∧ s.busyReport i = s))

/-! ## Requests -/

/-- RQ_CLEAR (R123): every staging field is cleared, the payload emptied, and the cursor set to
STAGING. -/
def Obligations.RqClear : Prop :=
  ∀ s : State, s.Taken →
    exec .rqClear s = .next
      (({ s with
        ru := { s.ru with
          staging :=
            { kind := 0, station := 0, urgent := false, tag := 0, retry := 8, blocks := 0,
              payload := [] } }
        fs := { s.fs with cursor := .staging } } : State).answer 0x40 .done)

/-- A refused RQ_SUBMIT changes nothing but the result: the first check that applies gives it
(R124). -/
def Obligations.RqSubmitRefusals : Prop :=
  ∀ s : State, s.Taken →
    (s.OperandWrong → exec .rqSubmit s = .next (s.answer 0x41 .badOperand)) ∧
    (¬s.OperandWrong → 32 ≤ s.cq.reserved + s.cq.ring.length →
      exec .rqSubmit s = .next (s.answer 0x41 .full)) ∧
    (¬s.OperandWrong → s.ru.staging.urgent = true → 8 ≤ s.ru.urgent.length →
      exec .rqSubmit s = .next (s.answer 0x41 .full)) ∧
    (¬s.OperandWrong → s.ru.staging.urgent = false → 16 ≤ s.ru.normal.length →
      exec .rqSubmit s = .next (s.answer 0x41 .full)) ∧
    (¬s.OperandWrong → s.cq.reserved + s.cq.ring.length < 32 →
      (if s.ru.staging.urgent then s.ru.urgent.length < 8 else s.ru.normal.length < 16) →
      s.freeCount < (s.stagedLength + 31) / 32 →
      exec .rqSubmit s = .next (s.answer 0x41 .noBuffer))

/-- An RQ_SUBMIT that no check of R124 refuses is accepted (R125): the blocks come from the front of
the free list, the payload is copied, a slot is reserved, the request is queued at the tail, the
staging area cleared and the cursor left. The payload copied into a chain of different blocks reads
back byte for byte, and no byte outside the chain changes (R125, R158). -/
def Obligations.RqSubmitAccepts : Prop :=
  (∀ (s : State) (k : CommandKind), s.Taken → ¬s.OperandWrong →
    s.ru.staging.kind = k.code →
    s.cq.reserved + s.cq.ring.length < 32 →
    (if s.ru.staging.urgent then s.ru.urgent.length < 8 else s.ru.normal.length < 16) →
    (s.stagedLength + 31) / 32 ≤ s.freeCount →
    let g := s.ru.staging
    let n := (s.stagedLength + 31) / 32
    let chain := s.fs.free.take n
    let named : Bool := decide (k ≠ .bcast) && decide (k ≠ .timesync)
    let r : Request :=
      { kind := k
        station := if named then some (Fin.ofNat 32 g.station.toNat) else none
        tag := g.tag
        retry := if g.retry.toNat < 8 then some (g.retry.setWidth 3) else none
        blocks := if named ∧ g.blocks ≠ 0 then some (g.blocks.setWidth 2) else none
        payload := chain
        length := BitVec.ofNat 7 s.stagedLength }
    exec .rqSubmit s = .next
      (({ s with
        fs := { s.fs with
          free := s.fs.free.drop n, mem := Memory.storeFrom chain 0 g.payload s.fs.mem }
        cq := { s.cq with reserved := s.cq.reserved + 1 }
        ru :=
          { staging := Staging.cleared
            urgent := if g.urgent then s.ru.urgent ++ [r] else s.ru.urgent
            normal := if g.urgent then s.ru.normal else s.ru.normal ++ [r] } }
        : State).settle.answer 0x41 .done)) ∧
  (∀ s : State,
    s.freeCount = s.fs.free.length ∧ s.stagedLength = s.ru.staging.payload.length) ∧
  Staging.cleared =
    { kind := 0, station := 0, urgent := false, tag := 0, retry := 8, blocks := 0, payload := [] } ∧
  (∀ (m : Memory) (chain : Chain) (payload : List Byte), m.wf = true → chain.Nodup →
    payload.length ≤ 32 * chain.length →
    let m' := Memory.storeFrom chain 0 payload m
    (∀ (k : Nat) (v : Byte), payload[k]? = some v → m'.chainByte chain k = v) ∧
    (∀ a : Nat, (∀ b ∈ chain, a / 32 ≠ b.val) → m'.read a = m.read a) ∧
    (∀ (k : Nat) (b : Block), chain[k / 32]? = some b → payload.length ≤ k →
      m'.read (b.val * 32 + k % 32) = m.read (b.val * 32 + k % 32)))

/-- RQ_CANCEL of a request that waits in a queue, or of the first deferred entry with the tag: it is
removed, its blocks are freed and its record is posted CANCELLED (R132, R133). The queues are
searched urgent, normal, deferred. RQ_CANCEL when no waiting request has the tag (R57, R134): the
request in flight takes the mark, in HOLDING it ends at once; a second cancel answers ALREADY, and
no match NOT_FOUND. The record of a request that ends before or without a reply (R131). -/
def Obligations.RqCancel : Prop :=
  (∀ s : State, s.Taken →
    let tag := s.ru.staging.tag
    (∀ l1 r l2, s.ru.urgent = l1 ++ r :: l2 → (∀ x ∈ l1, x.tag ≠ tag) → r.tag = tag →
      exec .rqCancel s = .next
        (({ s with
          ru := { s.ru with urgent := l1 ++ l2 }
          fs := { s.fs with free := s.fs.free ++ r.payload }
          cq :=
            { ring := s.cq.ring ++
                [{ r.record .cancelled true with stamp := s.tb.counter }]
              reserved := s.cq.reserved - 1 }
          eu := { s.eu with latches := s.eu.latches ||| 0x001#12 } }
          : State).settle.answer 0x42 .done)) ∧
    (∀ l1 r l2, (∀ x ∈ s.ru.urgent, x.tag ≠ tag) → s.ru.normal = l1 ++ r :: l2 →
      (∀ x ∈ l1, x.tag ≠ tag) → r.tag = tag →
      exec .rqCancel s = .next
        (({ s with
          ru := { s.ru with normal := l1 ++ l2 }
          fs := { s.fs with free := s.fs.free ++ r.payload }
          cq :=
            { ring := s.cq.ring ++
                [{ r.record .cancelled true with stamp := s.tb.counter }]
              reserved := s.cq.reserved - 1 }
          eu := { s.eu with latches := s.eu.latches ||| 0x001#12 } }
          : State).settle.answer 0x42 .done)) ∧
    (∀ l1 d l2, s.DeferredWf → (∀ x ∈ s.ru.urgent, x.tag ≠ tag) →
      (∀ x ∈ s.ru.normal, x.tag ≠ tag) → s.le.deferred = l1 ++ d :: l2 →
      (∀ x ∈ l1, x.txn.origin ≠ .request tag) → d.txn.origin = .request tag →
      exec .rqCancel s = .next
        (({ s with
          le := { s.le with
            deferred := l1 ++ l2, expired := s.le.expired.filter fun j => decide (j ≠ d.id) }
          fs := { s.fs with free := s.fs.free ++ d.txn.payload }
          cq :=
            { ring := s.cq.ring ++
                [{ d.txn.record tag .cancelled true with stamp := s.tb.counter }]
              reserved := s.cq.reserved - 1 }
          eu := { s.eu with latches := s.eu.latches ||| 0x001#12 } }
          : State).settle.answer 0x42 .done))) ∧
  (∀ s : State, s.Taken →
    let tag := s.ru.staging.tag
    (∀ x ∈ s.ru.urgent, x.tag ≠ tag) → (∀ x ∈ s.ru.normal, x.tag ≠ tag) →
    (∀ d ∈ s.le.deferred, d.txn.origin ≠ .request tag) →
    (∀ x, s.le.current = some x → x.origin = .request tag → x.cancel = true →
      exec .rqCancel s = .next (s.answer 0x42 .already)) ∧
    (∀ x, s.le.current = some x → x.origin = .request tag → x.cancel = false →
      s.le.state ≠ .holding →
      exec .rqCancel s = .next
        (({ s with le := { s.le with current := some { x with cancel := true } } }
          : State).answer 0x42 .done)) ∧
    (∀ x, s.le.current = some x → x.origin = .request tag → x.cancel = false →
      s.le.state = .holding →
      exec .rqCancel s = .next
        ((endTransaction { x with cancel := true } x.roundResult s).settle.answer 0x42 .done)) ∧
    ((∀ x, s.le.current = some x → x.origin ≠ .request tag) →
      exec .rqCancel s = .next (s.answer 0x42 .notFound))) ∧
  ((∀ (r : Request) (o : ReqOutcome) (cancel : Bool),
    r.record o cancel =
      { tag := r.tag, kind := r.kind, station := r.station, outcome := o, attempts := 0,
        busyCount := 0, cause := none, replyKind := none, replyLength := none, chain := [],
        nakReason := none, cancel := cancel, stamp := 0 }) ∧
  (∀ (t : Transaction) (tag : Word) (o : ReqOutcome) (cancel : Bool),
    t.record tag o cancel =
      { tag := tag, kind := t.kind, station := t.target, outcome := o, attempts := t.attempts,
        busyCount := t.busyCount, cause := none, replyKind := none, replyLength := none,
        chain := [], nakReason := none, cancel := cancel, stamp := 0 }) ∧
  (∀ (s : State) (r : Record),
    s.post r =
      { s with
        cq :=
          { ring := s.cq.ring ++ [{ r with stamp := s.tb.counter }]
            reserved := s.cq.reserved - 1 }
        eu := { s.eu with latches := s.eu.latches ||| 0x001#12 } }))

/-- RQ_FLUSH (R136, R137): the requests of the queues named, head first, and for ALL then the
deferred requests, are posted ABORTED in this order and their payload chains freed; deferred cycle
items are dropped. -/
def Obligations.RqFlush : Prop :=
  ∀ s : State, s.Taken →
    let aborted (q : List Request) : List Record :=
      q.map fun r => { r.record .aborted false with stamp := s.tb.counter }
    let requests := s.le.deferred.filter fun d => d.txn.isRequest
    let posted (n : Nat) : BitVec 12 := if n = 0 then s.eu.latches else s.eu.latches ||| 0x001#12
    exec .rqFlushUrgent s = .next
      (({ s with
        ru := { s.ru with urgent := [] }
        fs := { s.fs with free := s.fs.free ++ s.ru.urgent.flatMap Request.payload }
        cq :=
          { ring := s.cq.ring ++ aborted s.ru.urgent
            reserved := s.cq.reserved - s.ru.urgent.length }
        eu := { s.eu with latches := posted s.ru.urgent.length } }
        : State).settle.answer 0x43 .done) ∧
    exec .rqFlushNormal s = .next
      (({ s with
        ru := { s.ru with normal := [] }
        fs := { s.fs with free := s.fs.free ++ s.ru.normal.flatMap Request.payload }
        cq :=
          { ring := s.cq.ring ++ aborted s.ru.normal
            reserved := s.cq.reserved - s.ru.normal.length }
        eu := { s.eu with latches := posted s.ru.normal.length } }
        : State).settle.answer 0x43 .done) ∧
    ∃ ended : List Record,
      exec .rqFlushAll s = .next
        (({ s with
          ru := { s.ru with urgent := [], normal := [] }
          le := { s.le with deferred := [], expired := [] }
          fs := { s.fs with
            free := s.fs.free ++ s.ru.urgent.flatMap Request.payload ++
              s.ru.normal.flatMap Request.payload ++ requests.flatMap fun d => d.txn.payload }
          cq :=
            { ring := s.cq.ring ++ aborted s.ru.urgent ++ aborted s.ru.normal ++ ended
              reserved :=
                s.cq.reserved - (s.ru.urgent.length + s.ru.normal.length + requests.length) }
          eu := { s.eu with
            latches := posted (s.ru.urgent.length + s.ru.normal.length + requests.length) } }
          : State).settle.answer 0x43 .done) ∧
      ended.length = requests.length ∧
      ∀ (k : Nat) (d : Deferred) (tag : Word), requests[k]? = some d → d.txn.origin = .request tag →
        ended[k]? = some { d.txn.record tag .aborted false with stamp := s.tb.counter }

/-! ## Completions and snapshots -/

/-- CP_OPEN (R139). CP_RETIRE (R140): the cursor leaves the head's chain, the chain is freed and the
record leaves the ring. -/
def Obligations.CompletionCommands : Prop :=
  (∀ s : State, s.Taken →
    (s.cq.ring = [] → exec .cpOpen s = .next (s.answer 0x50 .empty)) ∧
    (∀ r rest, s.cq.ring = r :: rest → r.chain = [] →
      exec .cpOpen s = .next (s.answer 0x50 .empty)) ∧
    (∀ r rest n, s.cq.ring = r :: rest → r.chain ≠ [] → r.replyLength = some n →
      exec .cpOpen s = .next
        (({ s with fs := { s.fs with cursor := .completion 0 n } } : State).answer 0x50 .done))) ∧
  (∀ s : State, s.Taken →
    (s.cq.ring = [] → exec .cpRetire s = .next (s.answer 0x51 .empty)) ∧
    (∀ r rest, s.cq.ring = r :: rest →
      exec .cpRetire s = .next
        (({ s with
          cq := { s.cq with ring := rest }
          fs := { s.fs with
            free := s.fs.free ++ r.chain
            cursor :=
              match s.fs.cursor with
              | .completion _ _ => .none
              | c => c } } : State).settle.answer 0x51 .done)))

/-- SNAP_PIN and SNAP_UNPIN of station i (R153). SNAP_OPEN of station i (R154); a pinned record has
a current reply (R151). -/
def Obligations.SnapshotCommands : Prop :=
  (∀ (s : State) (i : Fin 32), s.Taken →
    let x := s.snapshot i
    let operand : Byte := BitVec.ofNat 8 i.val
    let cursor : Cursor := if s.fs.cursor.onSnapshot i then .none else s.fs.cursor
    (x.pinned = true → exec (.snapPin operand) s = .next (s.answer 0x60 .already)) ∧
    (x.pinned = false → x.current = none →
      exec (.snapPin operand) s = .next (s.answer 0x60 .empty)) ∧
    (x.pinned = false → x.current ≠ none →
      exec (.snapPin operand) s = .next
        (({ s with
          fs := { s.fs with snapshots := s.fs.snapshots.set i { x with pinned := true } } }
          : State).answer 0x60 .done)) ∧
    (x.pinned = false → exec (.snapUnpin operand) s = .next (s.answer 0x61 .already)) ∧
    (x.pinned = true → x.next = none →
      exec (.snapUnpin operand) s = .next
        (({ s with
          fs := { s.fs with
            cursor := cursor, snapshots := s.fs.snapshots.set i { x with pinned := false } } }
          : State).settle.answer 0x61 .done)) ∧
    (∀ n, x.pinned = true → x.next = some n →
      exec (.snapUnpin operand) s = .next
        (({ s with
          fs := { s.fs with
            cursor := cursor
            free := s.fs.free ++ replyChain x.current
            snapshots := s.fs.snapshots.set i
              { x with pinned := false, current := some n, next := none } } }
          : State).settle.answer 0x61 .done)) ∧
    (s.fs.cursor.onSnapshot i = true ↔ ∃ p r, s.fs.cursor = .snapshot i p r)) ∧
  (∀ (s : State) (i : Fin 32), s.Taken →
    let operand : Byte := BitVec.ofNat 8 i.val
    ((s.snapshot i).pinned = false →
      exec (.snapOpen operand) s = .next (s.answer 0x62 .refusedState)) ∧
    (∀ r, (s.snapshot i).pinned = true → (s.snapshot i).current = some r → r.chain = [] →
      exec (.snapOpen operand) s = .next (s.answer 0x62 .empty)) ∧
    (∀ r, (s.snapshot i).pinned = true → (s.snapshot i).current = some r → r.chain ≠ [] →
      exec (.snapOpen operand) s = .next
        (({ s with fs := { s.fs with cursor := .snapshot i 0 r.length } } : State).answer
          0x62 .done)))

/-- An installation (R150): into current, or into next while pinned; the reply replaced gives its
chain back, the generation counts it, and a watched station raises SNAPSHOT_UPDATED (E11). -/
def Obligations.SnapshotInstall : Prop :=
  (replyChain none = [] ∧ ∀ r : Installed, replyChain (some r) = r.chain) ∧
  ∀ (s : State) (i : Fin 32) (chain : Chain) (length : BitVec 7) (kind : SnapKind),
    s.snapshot i = s.fs.snapshots.get i ∧
    let x := s.snapshot i
    let r : Installed := { chain := chain, length := length, kind := kind, stamp := s.tb.counter }
    let latches :=
      if (s.station i).watch then s.eu.latches ||| 0x800#12 else s.eu.latches
    (x.pinned = false →
      s.install i chain length kind =
        { s with
          fs := { s.fs with
            free := s.fs.free ++ replyChain x.current
            snapshots := s.fs.snapshots.set i
              { x with current := some r, generation := x.generation + 1 } }
          eu := { s.eu with latches := latches } }) ∧
    (x.pinned = true →
      s.install i chain length kind =
        { s with
          fs := { s.fs with
            free := s.fs.free ++ replyChain x.next
            snapshots := s.fs.snapshots.set i
              { x with next := some r, generation := x.generation + 1 } }
          eu := { s.eu with latches := latches } })

/-! ## Tables -/

/-- TAB_READ: what each TAB_SEL loads into the image, and the selects and indices that name no entry
(R185; R63, R84, R93, R155, R170, R187 for what each table loads). -/
def Obligations.TableReads : Prop :=
  ∀ s : State, s.Taken →
    let n := s.bi.tabIndex
    let loads (row : Instr) (image : Vector Word 8) : Prop :=
      exec row s = .next (({ s with bi := { s.bi with image := image } } : State).answer 0x70 .done)
    (s.bi.tabSelect = 0 → n.toNat < 32 →
      loads .tabReadStation (s.station (Fin.ofNat 32 n.toNat)).image) ∧
    (s.bi.tabSelect = 1 → n.toNat < 64 →
      loads .tabReadSchedule (s.cu.bankA.slots.get (Fin.ofNat 64 n.toNat)).image) ∧
    (s.bi.tabSelect = 1 → n = 64 →
      loads .tabReadSchedule (lengthImage s.cu.bankA.length (decide (s.cu.active = .a)))) ∧
    (s.bi.tabSelect = 1 → 128 ≤ n.toNat → n.toNat < 192 →
      loads .tabReadSchedule (s.cu.bankB.slots.get (Fin.ofNat 64 (n.toNat - 128))).image) ∧
    (s.bi.tabSelect = 1 → n = 192 →
      loads .tabReadSchedule (lengthImage s.cu.bankB.length (decide (s.cu.active = .b)))) ∧
    (s.bi.tabSelect = 2 → n = 0 → loads .tabReadLineParameters s.le.params.image) ∧
    (s.bi.tabSelect = 3 → n.toNat < 32 →
      loads .tabReadSnapshot (s.snapshot (Fin.ofNat 32 n.toNat)).image) ∧
    (s.bi.tabSelect = 4 → n.toNat < 12 →
      loads .tabReadRoute (s.eu.routes.get (Fin.ofNat 12 n.toNat)).image) ∧
    (s.bi.tabSelect = 5 → n = 0 →
      loads .tabReadChangeQueueHead (changeHeadImage s.st.changes)) ∧
    (6 ≤ s.bi.tabSelect.toNat ∨
      ((s.bi.tabSelect = 0 ∨ s.bi.tabSelect = 3) ∧ 32 ≤ n.toNat) ∨
      (s.bi.tabSelect = 1 ∧ ((64 < n.toNat ∧ n.toNat < 128) ∨ 192 < n.toNat)) ∨
      ((s.bi.tabSelect = 2 ∨ s.bi.tabSelect = 5) ∧ n ≠ 0) ∨
      (s.bi.tabSelect = 4 ∧ 12 ≤ n.toNat) →
      exec .tabReadNoEntry s = .next (s.answer 0x70 .badOperand) ∧
      exec .tabWriteNoEntry s = .next (s.answer 0x71 .badOperand))

/-- The layouts of the table staging image (sections 10.7.1, 10.7.3), word by word, for each of the
tables: a station entry with its run fields (R84), a schedule slot and length (R93), the line
parameters (R63), a snapshot record (R155), a route (R170) and the change queue head (R187). What is
absent reads 0 (R188), and so do the words a layout does not name. A station entry and the line
parameters that are loaded and staged from the image again have the values they had. -/
def Obligations.ImagesRoundTrip : Prop :=
  (∀ p : LineParams, LineParams.staged p.image = p) ∧
  (∀ e : Station, e.staged e.image = e) ∧
  (∀ p : LineParams,
    p.image = imageOf
      [0#4 ++ p.divisor, p.window ++ p.turnaround,
       p.share ++ (p.breakLength ++ (p.quiet ++ p.gap)),
       0#2 ++ (p.threshold ++ p.holdoff), p.period]) ∧
  (∀ e : Station,
    e.image = imageOf
      [e.expectedClass ++ e.address,
       BitVec.ofBool e.watch ++ (0#1 ++ (e.replyBlocks ++ (e.failLimit ++ (e.busyLimit ++
        (0#1 ++ e.retryLimit))))),
       0#8 ++ e.probeInterval,
       0,
       0#4 ++ (e.failCount ++ (0#3 ++ (BitVec.ofBool e.toggle ++ (0#1 ++ e.state.code)))),
       0#8 ++ e.countdown,
       e.lastClass.getD 0 ++ (BitVec.ofBool e.lastClass.isSome ++
        (0#3 ++ (e.lastReply.map ReplyKind.code).getD 0))]) ∧
  (∀ x : Slot,
    x.image = imageOf
      [BitVec.ofBool x.enabled ++ (0#3 ++ (x.kind.code ++ (0#3 ++ BitVec.ofNat 5 x.station.val))),
       0#8 ++ x.selector]) ∧
  (∀ (n : BitVec 7) (active : Bool),
    lengthImage n active = imageOf [0#9 ++ n, 0#15 ++ BitVec.ofBool active]) ∧
  (∀ r : Route, r.image = imageOf [0#6 ++ (r.output.code ++ (0#5 ++ r.level))]) ∧
  (∀ x : Snapshot,
    let flags (installed : BitVec 10) : Word :=
      BitVec.ofBool x.pinned ++ (BitVec.ofBool x.next.isSome ++ (0#4 ++ installed))
    (x.current = none → x.image = imageOf [x.generation, flags 0]) ∧
    ∀ c, x.current = some c →
      x.image = imageOf
        [x.generation, flags (c.kind.code ++ (1#1 ++ (0#1 ++ c.length))),
         c.stamp.extractLsb' 0 16, c.stamp.extractLsb' 16 16]) ∧
  (changeHeadImage [] = imageOf [] ∧
    ∀ (n : Notice) (q : List Notice),
      changeHeadImage (n :: q) = imageOf
        [1#1 ++ (0#4 ++ (n.latestNew.code ++ (n.firstOld.code ++ BitVec.ofNat 5 n.station.val))),
         0#8 ++ n.count, n.stamp.extractLsb' 0 16, n.stamp.extractLsb' 16 16]) ∧
  (∀ (ws : List Word) (n : Fin 8), (imageOf ws).get n = ws.getD n.val 0) ∧
  ([StationState.unconfigured, .disabled, .probing, .online, .degraded, .offline, .mismatched].map
      StationState.code = [0, 1, 2, 3, 4, 5, 6] ∧
    [ReplyKind.data, .ack, .nak, .busy, .ident].map ReplyKind.code = [8, 9, 10, 11, 12] ∧
    [SlotKind.poll, .read].map SlotKind.code = [1, 2] ∧
    [Output.a, .b].map Output.code = [0, 1] ∧ [SnapKind.data, .ident].map SnapKind.code = [0, 1])

/-- TAB_WRITE of station entry i: the checks of R81 in their order, then the entry stored (R82), or
returned to UNCONFIGURED, as after reset, when the staged address is 0 (R83), with a notice when its
state changed. An entry is busy while it is neither UNCONFIGURED nor DISABLED, or while a queued
request, the current transaction or a deferred one targets it (R81, check 1). -/
def Obligations.TableWriteStation : Prop :=
  ∀ (s : State) (i : Fin 32), s.Taken → s.bi.tabSelect = 0 →
    s.bi.tabIndex = BitVec.ofNat 8 i.val →
    let old := s.station i
    let new := old.staged s.bi.image
    let busy : Prop := old.state.active = true ∨ s.targeted i = true
    let ranged : Prop := new.failLimit ≠ 0 ∧ new.replyBlocks ≠ 0 ∧ new.probeInterval ≠ 0
    let taken : Prop :=
      ∃ j, j ≠ i ∧ (s.station j).state ≠ .unconfigured ∧ (s.station j).address = new.address
    let same : Bool := decide (new.address = old.address)
    (s.targeted i = true ↔
      (∃ r ∈ s.ru.urgent, r.station = some i) ∨ (∃ r ∈ s.ru.normal, r.station = some i) ∨
        (∃ x, s.le.current = some x ∧ x.target = some i) ∨
        ∃ d ∈ s.le.deferred, d.txn.target = some i) ∧
    (∀ j, State.reset.station j = Station.reset) ∧
    (old.state.active = true ↔ old.state ≠ .unconfigured ∧ old.state ≠ .disabled) ∧
    (busy → exec .tabWriteStation s = .next (s.answer 0x71 .entryBusy)) ∧
    (¬busy → (240 ≤ new.address.toNat ∨ new.address ≠ 0 ∧ ¬ranged) →
      exec .tabWriteStation s = .next (s.answer 0x71 .badOperand)) ∧
    (¬busy → new.address ≠ 0 → new.address.toNat < 240 → ranged → taken →
      exec .tabWriteStation s = .next (s.answer 0x71 .duplicate)) ∧
    (¬busy → new.address ≠ 0 → new.address.toNat < 240 → ranged → ¬taken →
      exec .tabWriteStation s = .next
        (({ s with
          st :=
            { entries := s.st.entries.set i
                { new with
                  state := .disabled, failCount := 0, countdown := 0
                  toggle := same && old.toggle
                  lastReply := if same then old.lastReply else none
                  lastClass := if same then old.lastClass else none }
              changes :=
                if old.state = .disabled then s.st.changes
                else notedIn s.st.changes i old.state .disabled s.tb.counter } }
          : State).answer 0x71 .done)) ∧
    (¬busy → new.address = 0 →
      exec .tabWriteStation s = .next
        (({ s with
          st :=
            { entries := s.st.entries.set i Station.reset
              changes :=
                if old.state = .unconfigured then s.st.changes
                else notedIn s.st.changes i old.state .unconfigured s.tb.counter } }
          : State).answer 0x71 .done))

/-- TAB_WRITE of a schedule slot or length: the pending bank takes it, the active bank refuses it
(R92). What it stores replaces that bank and leaves the other one, and all else in the Cycle Unit, as
it was (R92). TAB_WRITE of the line parameters (R63, R14, R2), of a route entry (R170) and of the two
tables that are read-only (R155, R187). R2 has a character in assembly finished at the old divisor;
that a candidate start edge and HELD_LOW go on at the new one, and that the old divider goes on from
the count at which the sample-rate divider stood, are the model's choices (log 19). -/
def Obligations.TableWriteOthers : Prop :=
  (∀ (s : State) (bank : BankName), s.Taken → s.bi.tabSelect = 1 →
    let base : Nat := if bank = .a then 0 else 128
    let w0 := s.bi.image.get 0
    let n := field 8 0 w0
    (∀ k : Fin 65, s.bi.tabIndex = BitVec.ofNat 8 (base + k.val) → s.cu.active = bank →
      exec .tabWriteSchedule s = .next (s.answer 0x71 .refusedState)) ∧
    (∀ k : Fin 64, s.bi.tabIndex = BitVec.ofNat 8 (base + k.val) → s.cu.active ≠ bank →
      (32 ≤ n.toNat ∨ (field 4 8 w0 ≠ 1 ∧ field 4 8 w0 ≠ 2) →
        exec .tabWriteSchedule s = .next (s.answer 0x71 .badOperand)) ∧
      ∀ kind : SlotKind, n.toNat < 32 → field 4 8 w0 = kind.code →
        exec .tabWriteSchedule s = .next
          (({ s with
            cu := s.cu.setBank bank { s.cu.bank bank with
              slots := (s.cu.bank bank).slots.set k
                { station := Fin.ofNat 32 n.toNat, kind := kind,
                  selector := field 8 0 (s.bi.image.get 1),
                  enabled := decide (field 1 15 w0 = 1) } } } : State).answer 0x71 .done)) ∧
    (s.bi.tabIndex = BitVec.ofNat 8 (base + 64) → s.cu.active ≠ bank →
      (n = 0 ∨ 64 < n.toNat → exec .tabWriteSchedule s = .next (s.answer 0x71 .badOperand)) ∧
      (n ≠ 0 → n.toNat ≤ 64 →
        exec .tabWriteSchedule s = .next
          (({ s with
            cu := s.cu.setBank bank { s.cu.bank bank with length := n.setWidth 7 } }
            : State).answer 0x71 .done)))) ∧
  (∀ (c : CycleUnit) (x : Bank),
    c.setBank .a x = { c with bankA := x } ∧ c.setBank .b x = { c with bankB := x } ∧
    c.bank .a = c.bankA ∧ c.bank .b = c.bankB) ∧
  (∀ (width low : Nat) (w : Word), field width low w = w.extractLsb' low width) ∧
  (∀ s : State, s.Taken →
    let p := LineParams.staged s.bi.image
    let old := s.le.params
    let ranged : Prop :=
      (s.bi.image.get 0).toNat ≤ 4095 ∧ p.window ≠ 0 ∧ p.gap ≠ 0 ∧ p.quiet ≠ 0 ∧
        2 ≤ p.breakLength.toNat ∧ p.holdoff ≠ 0 ∧ 1 ≤ p.threshold.toNat ∧ p.threshold.toNat ≤ 32
    let w0 := s.bi.image.get 0
    (s.bi.tabSelect = 2 → s.bi.tabIndex = 0 → s.le.state ≠ .stopped →
      exec .tabWriteLineParameters s = .next (s.answer 0x71 .refusedState)) ∧
    (s.bi.tabSelect = 2 → s.bi.tabIndex = 0 → s.le.state = .stopped → ¬ranged →
      exec .tabWriteLineParameters s = .next (s.answer 0x71 .badOperand)) ∧
    (s.bi.tabSelect = 2 → s.bi.tabIndex = 0 → s.le.state = .stopped → ranged →
      p.divisor = old.divisor → p.quiet = old.quiet →
      exec .tabWriteLineParameters s = .next
        (({ s with le := { s.le with params := p } } : State).answer 0x71 .done)) ∧
    (s.bi.tabSelect = 2 → s.bi.tabIndex = 0 → s.le.state = .stopped → ranged →
      p.divisor ≠ old.divisor ∨ p.quiet ≠ old.quiet →
      exec .tabWriteLineParameters s = .next
        (({ s with
          li := { s.li with
            monitor := .active, quietTimer := 0
            oldRate :=
              match s.li.rx, s.li.oldRate with
              | .assembling _ _ _, none =>
                if p.divisor = old.divisor then none
                else some { divisor := old.divisor.toNat, left := s.li.sampleLeft }
              | _, r => r }
          le := { s.le with params := p } } : State).answer 0x71 .done)) ∧
    (∀ n : Fin 12, s.bi.tabSelect = 4 → s.bi.tabIndex = BitVec.ofNat 8 n.val →
      (8 ≤ (field 4 0 w0).toNat ∨ 2 ≤ (field 2 8 w0).toNat →
        exec .tabWriteRoute s = .next (s.answer 0x71 .badOperand)) ∧
      ∀ o : Output, (field 4 0 w0).toNat < 8 → field 2 8 w0 = o.code →
        exec .tabWriteRoute s = .next
          (({ s with
            eu := { s.eu with
              routes := s.eu.routes.set n
                { level := (field 4 0 w0).setWidth 3, output := o } } }
            : State).answer 0x71 .done)) ∧
    (s.bi.tabSelect = 3 → s.bi.tabIndex.toNat < 32 →
      exec .tabWriteSnapshot s = .next (s.answer 0x71 .refusedState)) ∧
    (s.bi.tabSelect = 5 → s.bi.tabIndex = 0 →
      exec .tabWriteChangeQueueHead s = .next (s.answer 0x71 .refusedState)))

/-! ## Registers -/

/-- TB_CLEAR (R165) and a read of TB_LO (R164), after which TB_HI reads the hold. -/
def Obligations.TimeBaseRows : Prop :=
  ∀ s : State, s.Taken →
    exec .tbClear s = .next
      (({ s with tb := { s.tb with counter := 0, hold := 0 } } : State).answer 0x80 .done) ∧
    exec .tbLoRead s = .next
      { s with
        tb := { s.tb with hold := s.tb.counter.extractLsb' 16 16 }
        pins := { s.pins with dataBus := some (s.tb.counter.extractLsb' 0 16) } } ∧
    registerRead 17 s = (s.tb.hold, s)

/-- A write of DPORT (R157): it appends to the staging payload, or is discarded as misuse, which
raises COMMAND_ERROR (E10) and nothing else (R159). A read of DPORT (R158): the byte of the chain
under the cursor at the position, which moves on; or 0 as misuse (R159). DREM shows the bytes the
cursor leaves for the host, and reading it changes nothing (R160). -/
def Obligations.DataPort : Prop :=
  (∀ (s : State) (v : Word), s.Taken →
    (s.fs.cursor = .staging → s.ru.staging.payload.length < 96 →
      exec (.dportWrite v) s = .next
        { s with
          ru := { s.ru with
            staging := { s.ru.staging with
              payload := s.ru.staging.payload ++ [v.extractLsb' 0 8] } } }) ∧
    (s.fs.cursor ≠ .staging ∨ 96 ≤ s.ru.staging.payload.length →
      exec (.dportWrite v) s = .next
        { s with eu := { s.eu with latches := s.eu.latches ||| 0x400#12 } })) ∧
  (∀ s : State, s.Taken →
    let misuse : State :=
      { s with
        eu := { s.eu with latches := s.eu.latches ||| 0x400#12 }
        pins := { s.pins with dataBus := some 0 } }
    (∀ p r rec rest b, s.fs.cursor = .completion p r → r ≠ 0 → s.cq.ring = rec :: rest →
      rec.chain[p.toNat / 32]? = some b →
      exec .dportRead s = .next
        { s with
          fs := { s.fs with cursor := .completion (p + 1) (r - 1) }
          pins := { s.pins with
            dataBus := some ((s.fs.mem.read (b.val * 32 + p.toNat % 32)).setWidth 16) } }) ∧
    (∀ i p r x b, s.fs.cursor = .snapshot i p r → r ≠ 0 → (s.snapshot i).current = some x →
      x.chain[p.toNat / 32]? = some b →
      exec .dportRead s = .next
        { s with
          fs := { s.fs with cursor := .snapshot i (p + 1) (r - 1) }
          pins := { s.pins with
            dataBus := some ((s.fs.mem.read (b.val * 32 + p.toNat % 32)).setWidth 16) } }) ∧
    ((s.fs.cursor = .staging ∨ s.fs.cursor = .none ∨ (∃ p, s.fs.cursor = .completion p 0) ∨
        ∃ i p, s.fs.cursor = .snapshot i p 0) →
      exec .dportRead s = .next misuse)) ∧
  (∀ s : State,
    (s.fs.cursor = .staging → s.ru.staging.payload.length ≤ 96 →
      registerRead 4 s = (BitVec.ofNat 16 (96 - s.ru.staging.payload.length), s)) ∧
    (∀ p r, s.fs.cursor = .completion p r → registerRead 4 s = (r.setWidth 16, s)) ∧
    (∀ i p r, s.fs.cursor = .snapshot i p r → registerRead 4 s = (r.setWidth 16, s)) ∧
    (s.fs.cursor = .none → registerRead 4 s = (0, s)))

/-- The staging registers (R182), TAB_SEL (R183) and the window of the table staging image (R184):
each write replaces what the register holds, as written, and the register reads it back. The status
and count registers STS, RQ_LEN, CQCOUNT, FS_FREE, CHG_COUNT and PART_ID (R178), the completion head
view CP_TAG to CP_STHI (R138) and the notice view CHG_HEAD and CHG_TIMES (R88), bit by bit in the
layouts of section 10.7.2 with the codes of section 10.7.1; a field that is absent, and a view that
is empty, read 0 (R188). -/
def Obligations.StagingAndTableRegisters : Prop :=
  (∀ (s : State) (v : Word), s.Taken →
    let g := s.ru.staging
    exec (.rqSelWrite v) s = .next
      { s with
        ru := { s.ru with
          staging := { g with
            station := v.extractLsb' 0 5, kind := v.extractLsb' 8 4, urgent := v.getLsbD 15 } } } ∧
    exec (.rqTagWrite v) s = .next { s with ru := { s.ru with staging := { g with tag := v } } } ∧
    exec (.rqOvrWrite v) s = .next
      { s with
        ru := { s.ru with
          staging := { g with retry := v.extractLsb' 0 4, blocks := v.extractLsb' 8 3 } } } ∧
    exec (.tabSelWrite v) s = .next
      { s with
        bi := { s.bi with
          tabIndex := v.extractLsb' 0 8, tabSelect := v.extractLsb' 8 3,
          tabPage := v.getLsbD 15 } } ∧
    (∀ (n : Fin 4) (m : Fin 8), m.val = n.val + (if s.bi.tabPage then 4 else 0) →
      exec (.tabWWrite n v) s = .next { s with bi := { s.bi with image := s.bi.image.set m v } } ∧
      s.registerValue (Fin.ofNat 32 (22 + n.val)) = s.bi.image.get m) ∧
    (s.registerValue 5 &&& 0x8F1F#16 = s.registerValue 5 ∧
      (rqSelWrite v s).registerValue 5 = v &&& 0x8F1F#16 ∧
      (rqTagWrite v s).registerValue 6 = v ∧
      (rqOvrWrite v s).registerValue 7 = v &&& 0x070F#16 ∧
      (tabSelWrite v s).registerValue 21 = v &&& 0x87FF#16)) ∧
  (∀ s : State,
    s.registerValue 2 =
      0#5 ++ (BitVec.ofBool (decide (s.li.monitor = .quiet)) ++ (s.fs.cursor.code ++
        (BitVec.ofBool s.cu.swapPending ++ (BitVec.ofBool s.le.stopMark ++ (s.cu.state.code ++
          (0#1 ++ s.le.state.code)))))) ∧
    s.registerValue 8 = 0#9 ++ BitVec.ofNat 7 s.ru.staging.payload.length ∧
    s.registerValue 15 =
      0#2 ++ (BitVec.ofNat 6 s.cq.reserved ++ (0#2 ++ BitVec.ofNat 6 s.cq.ring.length)) ∧
    s.registerValue 28 = 0#8 ++ BitVec.ofNat 8 s.freeCount ∧
    s.registerValue 29 = 0#10 ++ BitVec.ofNat 6 s.st.changes.length ∧
    s.registerValue 30 = 0x4121#16 ∧ s.registerValue 31 = 0 ∧ s.registerValue 0 = 0 ∧
    (s.cq.ring = [] → ∀ n : Fin 6, s.registerValue (Fin.ofNat 32 (9 + n.val)) = 0) ∧
    (∀ r rest, s.cq.ring = r :: rest →
      s.registerValue 9 = r.tag ∧
      s.registerValue 10 =
        BitVec.ofBool (decide (r.chain ≠ [])) ++ (BitVec.ofBool r.cancel ++
          (BitVec.ofBool r.station.isSome ++
            ((r.station.map fun i => BitVec.ofNat 5 i.val).getD 0 ++
              (r.kind.code ++ r.outcome.code)))) ∧
      s.registerValue 11 =
        (r.replyKind.map ReplyKind.code).getD 0 ++ ((r.cause.map Cause.code).getD 0 ++
          (r.busyCount ++ r.attempts)) ∧
      s.registerValue 12 =
        r.nakReason.getD 0 ++ (BitVec.ofBool r.replyLength.isSome ++ r.replyLength.getD 0) ∧
      s.registerValue 13 = r.stamp.extractLsb' 0 16 ∧
      s.registerValue 14 = r.stamp.extractLsb' 16 16) ∧
    (s.st.changes = [] → s.registerValue 26 = 0 ∧ s.registerValue 27 = 0) ∧
    (∀ n q, s.st.changes = n :: q →
      s.registerValue 26 =
        1#1 ++ (0#4 ++ (n.latestNew.code ++ (n.firstOld.code ++ BitVec.ofNat 5 n.station.val))) ∧
      s.registerValue 27 = 0#8 ++ n.count)) ∧
  ([EngineState.stopped, .idle, .holding, .turnaround, .sending, .awaiting, .receiving,
      .breaking].map EngineState.code = [0, 1, 2, 3, 4, 5, 6, 7] ∧
    [CycleState.halted, .waiting, .walking, .probePhase].map CycleState.code = [0, 1, 2, 3] ∧
    (∀ (i : Fin 32) (p r : BitVec 7),
      [Cursor.staging, .completion p r, .snapshot i p r, .none].map Cursor.code = [0, 1, 2, 3]) ∧
    [ReqOutcome.ok, .sent, .nak, .sequence, .overlength, .busyExhausted, .noReply, .corrupt,
      .wrongStation, .collision, .cancelled, .aborted, .stationDisabled, .stationOffline,
      .stationMismatch].map ReqOutcome.code = [1, 2, 3, 4, 5, 6, 7, 8, 9, 10, 11, 12, 13, 14, 15] ∧
    [Cause.check, .framing, .noise, .gap, .truncated, .length, .kind, .stray].map Cause.code =
      [1, 2, 3, 4, 5, 6, 7, 8])

/-- EV_LATCH and EV_ENABLE (R168, R169): a write of EV_LATCH clears the latches written as 1, a
write of EV_ENABLE replaces every enable; EV_LATCH reads the latches of the occurrences and the
present truth of the conditions E1, E2 and E8. The interrupt outputs and EV_PEND (R171, R172): an
output is asserted, and its pin low, exactly while an enabled event routed to it with a level above
0 is latched or true; EV_PEND shows, output by output, the highest such level and the
lowest-numbered event at it. -/
def Obligations.EventsAndOutputs : Prop :=
  (∀ (s : State) (v : Word), s.Taken →
    exec (.evLatchWrite v) s = .next
      { s with eu := { s.eu with latches := s.eu.latches &&& ~~~(v.extractLsb' 0 12) } } ∧
    exec (.evEnableWrite v) s =
      .next { s with eu := { s.eu with enables := v.extractLsb' 0 12 } } ∧
    s.registerValue 19 = s.eu.enables.setWidth 16 ∧
    (∀ n : Fin 12, n.val ≠ 1 → n.val ≠ 2 → n.val ≠ 8 →
      (s.registerValue 18).getLsbD n.val = s.eu.latches.getLsbD n.val) ∧
    ((s.registerValue 18).getLsbD 1 = true ↔
      s.le.params.threshold.toNat ≤ s.cq.ring.length) ∧
    ((s.registerValue 18).getLsbD 2 = true ↔ s.st.changes ≠ []) ∧
    ((s.registerValue 18).getLsbD 8 = true ↔ s.bufferWait = true)) ∧
  (∀ (s : State) (o : Output),
    let on (n : Fin 12) : Prop :=
      (s.eu.routes.get n).output = o ∧ (s.eu.routes.get n).level ≠ 0 ∧
        s.eu.enables.getLsbD n.val = true ∧ s.events.getLsbD n.val = true
    let level := pendingLevel s.eu s.events o
    let event := pendingEvent s.eu s.events o
    (s.irq o = true ↔ ∃ n, on n) ∧ (s.irqPin o = false ↔ ∃ n, on n) ∧
    s.registerValue 20 =
      BitVec.ofNat 4 (pendingEvent s.eu s.events .b).val ++ (0#1 ++
        (pendingLevel s.eu s.events .b ++ (BitVec.ofNat 4 (pendingEvent s.eu s.events .a).val ++
          (0#1 ++ pendingLevel s.eu s.events .a)))) ∧
    ((∀ n, ¬on n) → level = 0 ∧ event = 0) ∧
    ((∃ n, on n) →
      on event ∧ (s.eu.routes.get event).level = level ∧
      (∀ n, on n → (s.eu.routes.get n).level.toNat ≤ level.toNat) ∧
      (∀ n, on n → (s.eu.routes.get n).level = level → event.val ≤ n.val)))

/-! ## Ticks -/

/-- TICK (R163): the counter counts, every holdoff above 0 counts down, those that reach 0 expire in
list order (R52), and the Cycle Unit takes the tick with the timer and the state it had when the
tick came (R102, R104). When a holdoff expires at the tick that starts or overruns a cycle, either
may come first (log 8). -/
def Obligations.TickRow : Prop :=
  ∀ s : State, s.timeRuns = true →
    let t : State := { s with tb := { s.tb with prescaler := 0, counter := s.tb.counter + 1 } }
    let u : State := { t with choice := t.choice + 1 }
    let counted (x : State) : State :=
      { x with
        le := { x.le with
          deferred := x.le.deferred.map fun d =>
            { d with holdoff := if d.holdoff = 0 then 0 else d.holdoff - 1 }
          expired := x.le.expired ++
            (x.le.deferred.filter fun d => decide (d.holdoff = 1)).map Deferred.id } }
    (¬(t.holdoffDue = true ∧ t.cycleDue = true) →
      exec .tick s = .next (counted t.tickCycle.settle).settle) ∧
    (t.holdoffDue = true → t.cycleDue = true →
      exec .tick s = .next (counted u).settle.tickCycle.settle ∨
      exec .tick s = .next (counted u.tickCycle.settle).settle) ∧
    (t.holdoffDue = true ↔ ∃ d ∈ s.le.deferred, d.holdoff = 1) ∧
    (t.cycleDue = true ↔
      (∃ n, s.cu.timer = some n ∧ n.toNat ≤ 1) ∨ (s.cu.timer = none ∧ s.cu.state = .waiting))

/-- HOLDOFF_EXPIRY (R52), PERIOD_EXPIRY (R103) and NEXT_TICK_CYCLE_START (R104). Where there is no
holdoff, timer or waiting unit to end, nothing happens (the model's choice, log 2). What a tick does
to the Cycle Unit: a running timer counts down and is loaded again as it expires, an expiry starts a
cycle from WAITING or marks a start and raises CYCLE_OVERRUN (E5) (R102, R103); a WAITING unit whose
timer is stopped starts its next cycle (R104). -/
def Obligations.TickTimers : Prop :=
  (∀ s : State, s.timeRuns = true →
    (∀ (place : Fin 4) (d : Deferred), s.le.deferred[place.val]? = some d → d.holdoff ≠ 0 →
      exec (.holdoffExpiry place) s = .next
        (({ s with
          le := { s.le with
            deferred := s.le.deferred.map fun x => if x.id = d.id then { x with holdoff := 0 } else x
            expired := s.le.expired ++ [d.id] } } : State).settle)) ∧
    (∀ place : Fin 4, (∀ d, s.le.deferred[place.val]? = some d → d.holdoff = 0) →
      exec (.holdoffExpiry place) s = .next s) ∧
    (s.cu.timer ≠ none → exec .periodExpiry s = .next s.expirePeriod.settle) ∧
    (s.cu.timer = none → exec .periodExpiry s = .next s) ∧
    (s.cu.timer = none → s.cu.state = .waiting →
      exec .nextTickCycleStart s = .next
        (({ s with
          cu := { s.cu with
            timer := if s.le.params.period = 0 then none else some s.le.params.period } }
          : State).cycleStart.settle)) ∧
    (s.cu.timer ≠ none ∨ s.cu.state ≠ .waiting → exec .nextTickCycleStart s = .next s)) ∧
  (∀ s : State,
    let reload : Option (BitVec 16) :=
      if s.le.params.period = 0 then none else some s.le.params.period
    let loaded : State := { s with cu := { s.cu with timer := reload } }
    (∀ n, s.cu.timer = some n → 1 < n.toNat →
      s.tickCycle = { s with cu := { s.cu with timer := some (n - 1) } }) ∧
    (∀ n, s.cu.timer = some n → n.toNat ≤ 1 → s.tickCycle = s.expirePeriod) ∧
    (s.cu.timer = none → s.cu.state = .waiting → s.tickCycle = loaded.cycleStart) ∧
    (s.cu.timer = none → s.cu.state ≠ .waiting → s.tickCycle = s) ∧
    (s.cu.state = .halted → s.expirePeriod = loaded) ∧
    (s.cu.state = .waiting → s.expirePeriod = loaded.cycleStart) ∧
    (s.cu.state = .walking ∨ s.cu.state = .probePhase →
      s.expirePeriod =
        { s with
          cu := { s.cu with timer := reload, startPending := true }
          eu := { s.eu with latches := s.eu.latches ||| 0x020#12 } }))

/-! ## The line -/

/-- QUIET_REPORT (R14): the monitor becomes QUIET, the arbiter may choose, and a HOLDING engine goes
on: it ends the transaction whose target it has lost, or starts the next attempt (R50).
ACTIVE_REPORT (R14). Without their cause they change nothing (the model's choice, log 2). What makes
HOLDING end its transaction: a DISABLED target of a request, a slot's target that is not ONLINE or
DEGRADED, a probe's that is not PROBING or OFFLINE (R50). -/
def Obligations.QuietAndActiveRows : Prop :=
  (∀ s : State, s.timeRuns = true →
    let t : State :=
      { s with
        li := { s.li with monitor := .quiet, quietTimer := s.le.params.quiet.toNat * 176 } }
    (s.li.monitor = .active → s.li.lde = false → s.le.state ≠ .holding →
      exec .quietReport s = .next t.settle) ∧
    (∀ x, s.li.monitor = .active → s.li.lde = false → s.le.state = .holding →
      s.le.current = some x → s.targetLost x = true →
      exec .quietReport s = .next (endTransaction x x.roundResult t).settle) ∧
    (∀ x, s.li.monitor = .active → s.li.lde = false → s.le.state = .holding →
      s.le.current = some x → s.targetLost x = false →
      exec .quietReport s =
        .next (startAttempt { x with attempts := x.attempts + 1 } t).settle) ∧
    (s.li.monitor = .quiet ∨ s.li.lde = true → exec .quietReport s = .next s) ∧
    (s.li.monitor = .quiet →
      exec .activeReport s =
        .next { s with li := { s.li with monitor := .active, quietTimer := 0 } }) ∧
    (s.li.monitor = .active → exec .activeReport s = .next s)) ∧
  (∀ s : State,
    let t : State := { s with li := { s.li with monitor := .quiet } }
    (s.le.state ≠ .holding ∨ s.le.current = none → quietReport s = t.settle) ∧
    ∀ x, s.le.state = .holding → s.le.current = some x →
      (s.targetLost x = true →
        quietReport s = (endTransaction x x.roundResult t).settle) ∧
      (s.targetLost x = false →
        quietReport s = (startAttempt { x with attempts := x.attempts + 1 } t).settle)) ∧
  (∀ (s : State) (x : Transaction),
    (x.target = none → s.targetLost x = false) ∧
    ∀ i, x.target = some i →
      (∀ tag, x.origin = .request tag →
        (s.targetLost x = true ↔ (s.station i).state = .disabled)) ∧
      (x.origin = .pollSlot ∨ x.origin = .readSlot →
        (s.targetLost x = true ↔
          (s.station i).state ≠ .online ∧ (s.station i).state ≠ .degraded)) ∧
      (x.origin = .probe →
        (s.targetLost x = true ↔
          (s.station i).state ≠ .probing ∧ (s.station i).state ≠ .offline)))

/-- REPLY_WINDOW_EXPIRY (R43) and GAP_EXPIRY (R44). While a character is pending the window's expiry
waits for it; without a running timer nothing happens (the model's choice, log 2). -/
def Obligations.LineTimerRows : Prop :=
  ∀ s : State, s.timeRuns = true →
    (∀ x, s.le.current = some x →
      (s.le.state = .awaiting → s.le.attempt.window ≠ none → s.le.attempt.pending = true →
        exec .replyWindowExpiry s = .next
          (({ s with le := { s.le with
            attempt := { s.le.attempt with window := none, windowOut := true } } }
            : State).settle)) ∧
      (s.le.state = .awaiting → s.le.attempt.window ≠ none → s.le.attempt.pending = false →
        exec .replyWindowExpiry s = .next
          (attemptEnds x (if s.le.attempt.stray then .corrupt .stray else .noReply) s).settle) ∧
      (s.le.state = .receiving → s.le.attempt.gap ≠ none →
        exec .gapExpiry s = .next (attemptEnds x (.corrupt .gap) s).settle)) ∧
    (s.le.state ≠ .awaiting ∨ s.le.attempt.window = none →
      exec .replyWindowExpiry s = .next s) ∧
    (s.le.state ≠ .receiving ∨ s.le.attempt.gap = none → exec .gapExpiry s = .next s)

/-- START_REPORT (R3, R14, R15, R40, R43, R44): the receiver enters ASSEMBLING and the line is
ACTIVE. In SENDING, AWAITING and RECEIVING the character is pending, and in RECEIVING the gap timer
stops; in any other state it is foreign traffic, which raises LINE_CONTENTION (E6) but in STOPPED; that
it is so in BREAKING too, where the break still waits for earlier work, is the model's choice (log
22). A receiver that hunts for no start makes no report (the model's choice, log 2). The reports that can
only follow the stop bit of the last character begin where it ends: with the release bit, and the
receiver in HUNTING, or in HELD_LOW after a framing-marked echo (R9, R11). -/
def Obligations.StartReportRow : Prop :=
  (∀ (s : State) (noise : Bool), s.timeRuns = true →
    let l := s.li.pastLastStopBit
    let line (foreign : Bool) : LineInterface :=
      { l with
        monitor := .active, quietTimer := 0, lastSample := false
        rx := .assembling 9 { votes := [], bits := [false], noise := noise } foreign }
    (∀ w, l.rx = .hunting w → s.le.state = .sending ∨ s.le.state = .awaiting →
      exec (.startReport noise) s = .next
        { s with
          li := line false
          le := { s.le with attempt := { s.le.attempt with pending := true } } }) ∧
    (∀ w, l.rx = .hunting w → s.le.state = .receiving →
      exec (.startReport noise) s = .next
        { s with
          li := line false
          le := { s.le with attempt := { s.le.attempt with pending := true, gap := none } } }) ∧
    (∀ w, l.rx = .hunting w → s.le.state = .stopped →
      exec (.startReport noise) s = .next { s with li := line true }) ∧
    (∀ w, l.rx = .hunting w → s.le.state = .idle ∨ s.le.state = .holding ∨
        s.le.state = .turnaround ∨ s.le.state = .breaking →
      exec (.startReport noise) s = .next
        { s with
          li := line true
          eu := { s.eu with latches := s.eu.latches ||| 0x040#12 } }) ∧
    ((∀ w, l.rx ≠ .hunting w) → exec (.startReport noise) s = .next s)) ∧
  (∀ l : LineInterface,
    (∀ c n framing, l.tx = .sending c n (some framing) → l.supplied = none →
      l.pastLastStopBit =
        { l with
          tx := .releaseBit 0
          rx := if framing then .heldLow 0 [] false else .hunting none }) ∧
    ((∀ c n framing, l.tx ≠ .sending c n (some framing)) ∨ l.supplied ≠ none →
      l.pastLastStopBit = l))

/-- CHARACTER_REPORT (R5, R6, R15, R27, R43 to R45): the receiver hunts again, or stays in HELD_LOW
after a framing mark, with the break count armed for a candidate; a foreign character goes nowhere;
the engine takes any other, by its state. A receiver that assembles nothing makes no report (the
model's choice, log 2). How the receiver comes to its reports, sample by sample: a position is
decided from its samples 7, 8 and 9 by majority, with noise where they differ (R3, R4); a high and
then a low sample is a candidate start edge, decided at its ninth sample (R3), and so is the sample
that decides a false start, or ends a character without framing mark (R3, the model's reading, log
21); the eleventh position ends the character (R5); in HELD_LOW a position decided high ends it, and
an armed count reports a break at sample 345 (R6, R7); no position is decided while the driver is
enabled for a break (R13). The reports of the rows START_REPORT, CHARACTER_REPORT and BREAK_REPORT
are these reports. A character report ends the old divisor, also where its framing mark leads to
HELD_LOW, whose positions from 11 on run at the new rate (the model's choice, log 19). -/
def Obligations.CharacterReportRow : Prop :=
  (∀ (s : State) (data : Byte) (mark noise framing : Bool), s.timeRuns = true →
    let row := exec (.characterReport data mark noise framing) s
    (∀ n h foreign, s.li.rx = .assembling n h foreign →
      let c : LineChar :=
        { data := data, mark := mark, noise := noise || h.noise, framing := framing }
      row = .next
        (characterReport c foreign none
          { s with li := { s.li with lastSample := !framing } })) ∧
    ((∀ n h foreign, s.li.rx ≠ .assembling n h foreign) → row = .next s)) ∧
  (∀ (s : State) (c : LineChar) (edge : Option (Nat × Shift)),
    let t : State :=
      { s with
        li := { s.li with
          oldRate := none
          rx :=
            if c.framing then .heldLow 169 [] (decide (c.data = 0) && !c.mark)
            else .hunting edge } }
    let a := s.le.attempt
    let report := characterReport c false edge s
    characterReport c true edge s = t.settle ∧
    (∀ x, s.le.current = some x →
      (s.le.state = .awaiting → c.mark = true → report = (t.beginReceiving c).settle) ∧
      (s.le.state = .awaiting → c.mark = false → a.windowOut = false →
        report =
          ({ t with le := { t.le with attempt := { a with stray := true, pending := false } } }
            : State).settle) ∧
      (s.le.state = .awaiting → c.mark = false → a.windowOut = true →
        report =
          (attemptEnds x (.corrupt .stray)
            { t with
              le := { t.le with attempt := { a with stray := true, pending := false } } }).settle) ∧
      (s.le.state = .receiving → c.mark = true →
        report =
          (attemptEnds x (.corrupt .truncated)
            { t with eu := { t.eu with latches := t.eu.latches ||| 0x040#12 } }).settle) ∧
      (s.le.state = .receiving → c.mark = false → report = (t.takeReplyChar x c).settle) ∧
      (s.le.state = .sending →
        report =
          ({ t with le := { t.le with attempt := { a with pending := false } } }
            : State).settle)) ∧
    (s.le.state ≠ .sending → s.le.state ≠ .awaiting → s.le.state ≠ .receiving →
      report = t.settle)) ∧
  (∀ (h : Shift) (n : Nat) (level a b : Bool),
    let high : Bool := (a && b) || (a && level) || (b && level)
    (n % 16 = 7 → h.sample n level = ({ h with votes := [level] }, none)) ∧
    (n % 16 = 8 → h.sample n level = ({ h with votes := h.votes ++ [level] }, none)) ∧
    (n % 16 = 9 → h.votes = [a, b] →
      h.sample n level =
        ({ votes := [], bits := h.bits ++ [high]
           noise := h.noise || !(decide (a = b) && decide (b = level)) }, some high)) ∧
    (n % 16 < 7 ∨ 9 < n % 16 → h.sample n level = (h, none)) ∧
    ∀ start mark stop b0 b1 b2 b3 b4 b5 b6 b7,
      h.bits = [start, b0, b1, b2, b3, b4, b5, b6, b7, mark, stop] →
      h.report = { h.echo with framing := !stop } ∧ h.echo.framing = (start || !stop) ∧
      h.report.mark = mark ∧ h.report.noise = h.noise ∧
      [b0, b1, b2, b3, b4, b5, b6, b7] =
        (List.range 8).map fun k => h.report.data.getLsbD k) ∧
  (∀ (s : State) (level : Bool),
    let next (rx : Rx) : State := { s with li := { s.li with lastSample := level, rx := rx } }
    let t := next s.li.rx
    let edge : Option (Nat × Shift) :=
      if s.li.lastSample = true ∧ level = false then some (0, Shift.fresh) else none
    (s.li.rx = .hunting none → rxSample level s = next (.hunting edge)) ∧
    (∀ n h, s.li.rx = .hunting (some (n, h)) →
      let g := h.sample (n + 1) level
      (g.2 = none → rxSample level s = next (.hunting (some (n + 1, g.1)))) ∧
      (g.2 = some true → rxSample level s = next (.hunting edge)) ∧
      (g.2 = some false → rxSample level s = startReport g.1 t)) ∧
    (∀ n h foreign, s.li.rx = .assembling n h foreign →
      let g := (h.sample (n + 1) level).1
      (n ≠ 168 → rxSample level s = next (.assembling (n + 1) g foreign)) ∧
      (n = 168 → rxSample level s = characterReport g.report foreign edge t)) ∧
    (∀ n votes armed, s.li.rx = .heldLow n votes armed →
      let m := n + 1
      (s.li.tx.breaking = true → rxSample level s = t) ∧
      (s.li.tx.breaking = false → m % 16 = 7 → rxSample level s = next (.heldLow m [level] armed)) ∧
      (s.li.tx.breaking = false → m % 16 = 8 →
        rxSample level s = next (.heldLow m (votes ++ [level]) armed)) ∧
      (s.li.tx.breaking = false → m % 16 < 7 ∨ 9 < m % 16 →
        rxSample level s = next (.heldLow m votes armed)) ∧
      ∀ a b, s.li.tx.breaking = false → m % 16 = 9 → votes = [a, b] →
        let high : Bool := (a && b) || (a && level) || (b && level)
        (high = true → rxSample level s = next (.hunting none)) ∧
        (high = false → armed = true → m = 345 → rxSample level s = breakReport t) ∧
        (high = false → armed = false ∨ m ≠ 345 →
          rxSample level s = next (.heldLow m [] armed))) ∧
    (∀ h, s.li.rx = .echoing h → rxSample level s = t)) ∧
  Shift.fresh = { votes := [], bits := [], noise := false } ∧
  (∀ s : State, s.timeRuns = true →
    (∀ w noise, s.li.pastLastStopBit.rx = .hunting w →
      exec (.startReport noise) s = .next
        (startReport { votes := [], bits := [false], noise := noise }
          { s with
            li := { s.li.pastLastStopBit with
              monitor := .active, quietTimer := 0, lastSample := false } })) ∧
    (∀ n v, s.li.rx = .heldLow n v true →
      exec .breakReport s = .next
        (breakReport { s with li := { s.li with lastSample := false } })) ∧
    ∀ tx : Tx, (tx.breaking = true ↔ (∃ n, tx = .breakLow n) ∨ ∃ n, tx = .breakHigh n))

/-- The characters of a reply, each in its place (R27 to R29, R44): ADDRESS with the mark, CONTROL,
LENGTH, payload into the reservation (each byte at its place there, and no other byte of the store
changed; none where the reservation does not reach so far, R28), low CHECK byte, high CHECK byte,
which ends the attempt with the judgement. A LENGTH above 96 ends it CORRUPT LENGTH, or with the
mark seen before. -/
def Obligations.ReplyCharacters : Prop :=
  (∀ (m : Memory) (chain : Chain) (k : Nat) (v : Byte), m.wf = true →
    (chain[k / 32]? = none → m.storeAt chain k v = m) ∧
    ∀ b : Block, chain[k / 32]? = some b →
      (m.storeAt chain k v).read (b.val * 32 + k % 32) = v ∧
      ∀ a : Nat, a ≠ b.val * 32 + k % 32 → (m.storeAt chain k v).read a = m.read a) ∧
  ∀ (s : State) (x : Transaction) (c : LineChar), s.le.current = some x →
    let a := s.le.attempt
    let gap := some (s.le.params.gap.toNat * 176)
    let own : Option Cause := if c.framing then some .framing else if c.noise then some .noise else none
    let b : Attempt :=
      { a with pending := false, gap := gap, taken := a.taken + 1, markCause := a.markCause.or own }
    let n := a.replyLength.toNat
    let withAttempt (y : Attempt) : State := { s with le := { s.le with attempt := y } }
    s.beginReceiving c =
      { s with
        le := { s.le with
          state := .receiving
          attempt := { a with
            pending := false, window := none, windowOut := false, gap := gap, taken := 1,
            replyAddress := c.data, replyControl := 0, replyLength := 0,
            replyCheck := checkFeed 0xFFFF#16 c.data, checkLow := 0, markCause := own } } } ∧
    (a.taken = 1 →
      s.takeReplyChar x c =
        withAttempt { b with replyControl := c.data, replyCheck := checkFeed a.replyCheck c.data }) ∧
    (a.taken = 2 → c.data.toNat ≤ 96 →
      s.takeReplyChar x c =
        withAttempt { b with replyLength := c.data, replyCheck := checkFeed a.replyCheck c.data }) ∧
    (a.taken = 2 → 96 < c.data.toNat →
      s.takeReplyChar x c =
        attemptEnds x (.corrupt (b.markCause.getD .length)) (withAttempt { b with gap := none })) ∧
    (3 ≤ a.taken → a.taken < 3 + n →
      s.takeReplyChar x c =
        { withAttempt { b with replyCheck := checkFeed a.replyCheck c.data } with
          fs := { s.fs with mem := s.fs.mem.storeAt x.reservation (a.taken - 3) c.data } }) ∧
    (3 ≤ a.taken → a.taken = 3 + n →
      s.takeReplyChar x c = withAttempt { b with checkLow := c.data }) ∧
    (3 ≤ a.taken → 3 + n < a.taken →
      s.takeReplyChar x c =
        let w := withAttempt { b with gap := none }
        attemptEnds x (w.judge x c.data) w)

/-- The check register: set to FFFFh, each bit of each byte compared with bit 0, a shift, and an
exclusive-or with 8408h where they differ (R20); and the check after each byte of the POLL frame to
address 1 (section 2.3.1). -/
def Obligations.CheckRegister : Prop :=
  (∀ (r : Word) (b : Bool),
    checkBit r b = if b = r.getLsbD 0 then r >>> 1 else (r >>> 1) ^^^ 0x8408#16) ∧
  (∀ (r : Word) (v : Byte),
    checkFeed r v =
      checkBit (checkBit (checkBit (checkBit (checkBit (checkBit (checkBit (checkBit r
        (v.getLsbD 0)) (v.getLsbD 1)) (v.getLsbD 2)) (v.getLsbD 3)) (v.getLsbD 4))
        (v.getLsbD 5)) (v.getLsbD 6)) (v.getLsbD 7)) ∧
  checkFeed 0xFFFF#16 0x01 = 0x1E0E#16 ∧ checkFeed 0x1E0E#16 0x01 = 0xF8E9#16 ∧
  checkFeed 0xF8E9#16 0x00 = 0x7A37#16

/-- The judgement of a reply frame that ran to its end, step by step (R30, R31): a mark, the check,
the address, the kind (direction 1, bits 6 and 7 at 0, a kind expected for the command (R25) with a
LENGTH in its range (R26)), the size, and else the reply itself. -/
def Obligations.ReplyJudgement : Prop :=
  ∀ (s : State) (x : Transaction) (high : Byte),
    let a := s.le.attempt
    let n := a.replyLength.toNat
    let control := a.replyControl
    let fits (k : ReplyKind) : Prop :=
      control.extractLsb' 5 3 = 1#3 ∧ control.extractLsb' 0 4 = k.code ∧
      (match x.kind with
        | .poll | .read => k = .data ∨ k = .nak ∨ k = .busy
        | .write => k = .ack ∨ k = .nak ∨ k = .busy
        | .probe => k = .ident
        | .bcast | .timesync => False) ∧
      (match k with
        | .data => n ≤ 96
        | .ack | .busy => n = 0
        | .nak => 1 ≤ n ∧ n ≤ 96
        | .ident => 2 ≤ n ∧ n ≤ 96)
    (∀ c, a.markCause = some c → s.judge x high = .corrupt c) ∧
    (a.markCause = none → high ++ a.checkLow ≠ a.replyCheck → s.judge x high = .corrupt .check) ∧
    (a.markCause = none → high ++ a.checkLow = a.replyCheck → a.replyAddress ≠ a.address →
      s.judge x high = .wrongStation) ∧
    (a.markCause = none → high ++ a.checkLow = a.replyCheck → a.replyAddress = a.address →
      (∀ k, ¬fits k) → s.judge x high = .corrupt .kind) ∧
    (∀ k, a.markCause = none → high ++ a.checkLow = a.replyCheck → a.replyAddress = a.address →
      fits k → 32 * x.reservation.length < n → s.judge x high = .overlength k) ∧
    (∀ k, a.markCause = none → high ++ a.checkLow = a.replyCheck → a.replyAddress = a.address →
      fits k → n ≤ 32 * x.reservation.length →
      s.judge x high =
        .reply k (a.replyLength.setWidth 7) (control.getLsbD 4)
          (s.fs.mem.chainByte x.reservation 0))

/-- FIRST_START_REPORT (R8, R10, R24, R39): the first character begins, the receiver echoes, the
engine is SENDING, and a TIMESYNC latches the tick counter. In a STOPPED engine the report has no
effect on it. With no turnaround under way nothing happens (the model's choice, log 2).
RELEASED_REPORT (R11, R13, R36, R42, R43): the driver is released, or a break that waited begins its
low period; in SENDING the engine awaits the reply for the reply window. BREAK_LOW_END (R13, R34)
sets every toggle to 0. Without their cause nothing happens (the model's choice, log 2). LTX and LDE
at every phase of the transmitter, and the levels of a character's eleven positions (R1, R8, R11,
R13). How the transmitter comes to its reports, sample by sample: sixteen samples a bit, the echo
sampled with it and handed over at 169, the next character or the release bit at 176 (R9 to R11),
the break length and the bit time after it (R13); the reports are those of the rows. -/
def Obligations.TransmitRows : Prop :=
  ((∀ s : State, s.timeRuns = true →
    let t (c : TxChar) : State :=
      { s with
        li := { s.li with
          tx := .sending c 0 none, supplied := none, rx := .echoing Shift.fresh,
          oldRate := none } }
    (∀ n c x, s.li.tx = .turnaround n → s.li.supplied = some c → s.le.state = .turnaround →
      s.le.current = some x →
      exec .firstStartReport s = .next
        { t c with
          le := { s.le with
            state := .sending
            attempt :=
              if x.kind = .timesync then { s.le.attempt with latched := s.tb.counter }
              else s.le.attempt } }) ∧
    (∀ n c, s.li.tx = .turnaround n → s.li.supplied = some c → s.le.state ≠ .turnaround →
      exec .firstStartReport s = .next (t c)) ∧
    ((∀ n, s.li.tx ≠ .turnaround n) ∨ s.li.supplied = none →
      exec .firstStartReport s = .next s)) ∧
  (∀ s : State, s.timeRuns = true →
    let l := s.li.pastLastStopBit
    let released : LineInterface :=
      if l.breakWaiting then
        { l with
          tx := .breakLow 0, breakWaiting := false, rx := .heldLow 0 [] false, oldRate := none,
          monitor := .active, quietTimer := 0 }
      else { l with tx := .released }
    (∀ n, l.tx = .releaseBit n → s.le.state = .sending →
      exec .releasedReport s = .next
        { s with
          li := released
          le := { s.le with
            state := .awaiting
            attempt := { s.le.attempt with
              window := some (s.le.params.window.toNat * 176) } } }) ∧
    (∀ n, l.tx = .releaseBit n → s.le.state ≠ .sending →
      exec .releasedReport s = .next { s with li := released }) ∧
    ((∀ n, l.tx ≠ .releaseBit n) → exec .releasedReport s = .next s) ∧
    (∀ n, s.li.tx = .breakLow n → ∃ st,
      exec .breakLowEnd s =
        .next { s with li := { s.li with tx := .breakHigh 0 }, st := st } ∧
      st.changes = s.st.changes ∧
      ∀ i : Fin 32, st.entries.get i = { s.station i with toggle := false }) ∧
    ((∀ n, s.li.tx ≠ .breakLow n) → exec .breakLowEnd s = .next s))) ∧
  (∀ l : LineInterface,
    (l.lde = false ↔ l.tx = .released) ∧
    (∀ c n e, l.tx = .sending c n e → l.ltx = c.level (n / 16)) ∧
    (∀ n, l.tx = .breakLow n → l.ltx = false) ∧
    ((∀ c n e, l.tx ≠ .sending c n e) → (∀ n, l.tx ≠ .breakLow n) → l.ltx = true)) ∧
  (∀ c : TxChar,
    c.level 0 = false ∧ (∀ k : Fin 8, c.level (k.val + 1) = c.data.getLsbD k.val) ∧
    c.level 9 = c.mark ∧ c.level 10 = true) ∧
  (∀ (s : State) (level : Bool), s.timeRuns = true →
    let next (tx : Tx) : State := { s with li := { s.li with tx := tx } }
    let length := s.le.params.breakLength.toNat * 176
    (s.li.tx = .released → txSample level s = s) ∧
    (∀ n, s.li.tx = .turnaround n → 1 < n → txSample level s = next (.turnaround (n - 1))) ∧
    (∀ n c, s.li.tx = .turnaround n → n ≤ 1 → s.li.supplied = some c →
      exec .firstStartReport s = .next (txSample level s)) ∧
    (∀ c n e h, s.li.tx = .sending c n e → s.li.rx = .echoing h →
      let g := (h.sample (n + 1) level).1
      (n ≠ 168 → n < 175 →
        txSample level s =
          { s with li := { s.li with tx := .sending c (n + 1) e, rx := .echoing g } }) ∧
      (n = 168 → e = none →
        exec (.echoReport g.echo.data g.echo.mark g.echo.noise g.echo.framing)
          { s with li := { s.li with rx := .echoing g } } = .next (txSample level s))) ∧
    (∀ c n e, s.li.tx = .sending c n e → 175 ≤ n →
      (∀ c', s.li.supplied = some c' →
        txSample level s =
          { s with
            li := { s.li with
              tx := .sending c' 0 none, supplied := none, rx := .echoing Shift.fresh,
              oldRate := none } }) ∧
      (s.li.supplied = none →
        txSample level s =
          { s with
            li := { s.li with
              tx := .releaseBit 0
              rx := if e = some true then .heldLow 0 [] false else .hunting none } })) ∧
    (∀ n, s.li.tx = .releaseBit n →
      (n < 15 → txSample level s = next (.releaseBit (n + 1))) ∧
      (15 ≤ n → exec .releasedReport s = .next (txSample level s))) ∧
    (∀ n, s.li.tx = .breakLow n →
      (n + 1 < length → txSample level s = next (.breakLow (n + 1))) ∧
      (length ≤ n + 1 → exec .breakLowEnd s = .next (txSample level s))) ∧
    (∀ n, s.li.tx = .breakHigh n →
      (n < 15 → txSample level s = next (.breakHigh (n + 1))) ∧
      (15 ≤ n → exec .breakDoneReport s = .next (txSample level s))))

/-- ECHO_REPORT (R9, R10, R40 to R42): an echo that agrees with the character sent is answered with
the next character, or after the last one with nothing, which ends a broadcast SENT; one that
differs raises LINE_CONTENTION (E6) and ends the attempt COLLISION. An echo in any other engine
state goes nowhere, and with no echo due nothing happens (the model's choice, log 2). -/
def Obligations.EchoRow : Prop :=
  ∀ (s : State) (data : Byte) (mark noise framing : Bool), s.timeRuns = true →
    let row := exec (.echoReport data mark noise framing) s
    (∀ (c : TxChar) (t : State),
      (∃ n, s.li.tx = .sending c n none ∧
        t = { s with li := { s.li with tx := .sending c 169 (some framing) } }) ∨
      (∃ c0 n e, s.li.tx = .sending c0 n (some e) ∧ s.li.supplied = some c ∧
        t = { s with
          li := { s.li with
            tx := .sending c 169 (some framing), supplied := none, rx := .echoing Shift.fresh,
            oldRate := none } }) →
      let agrees : Prop := data = c.data ∧ mark = c.mark ∧ noise = false ∧ framing = false
      (s.le.state ≠ .sending → row = .next t.settle) ∧
      ∀ x, s.le.state = .sending → s.le.current = some x →
        (¬agrees →
          row = .next
            (attemptEnds x .collision
              { t with eu := { t.eu with latches := t.eu.latches ||| 0x040#12 } }).settle) ∧
        (agrees → t.frameByte x s.le.attempt.sent ≠ none →
          row = .next (t.supplyNext x).settle) ∧
        (agrees → t.frameByte x s.le.attempt.sent = none →
          (x.kind = .bcast ∨ x.kind = .timesync → row = .next (attemptEnds x .sent t).settle) ∧
          (x.kind ≠ .bcast → x.kind ≠ .timesync → row = .next t.settle))) ∧
    ((∀ c n e, s.li.tx ≠ .sending c n e) ∨
        (∃ c n e, s.li.tx = .sending c n (some e) ∧ s.li.supplied = none) →
      row = .next s)

/-- The start of an attempt (R8, R14, R19, R22, R38, R50): address and toggle are read from the
station entry, the kind and the toggle make CONTROL, the driver is enabled for the turnaround, which
makes the monitor ACTIVE, and the ADDRESS character is supplied with mark 1; with a turnaround of 0
its start bit begins at once, and while the clock stands it waits for it (R192, log 14). That a
turnaround ordered between two sample clocks is counted from the order's moment (log 18), and that
while the clock runs this moment resets the quiet timer (log 20), are the model's choices; while the
clock stands the timer keeps its value (R192). What an attempt holds before it has sent or received anything is the
model's own bookkeeping. The characters of a command frame in order: ADDRESS, CONTROL, LENGTH, the
payload, the check low byte first (R18 to R24), and how the engine supplies the next one. -/
def Obligations.CommandFrames : Prop :=
  (∀ (s : State) (x : Transaction),
    let address : Byte := match x.target with
      | some i => (s.station i).address
      | none => 0
    let toggle : Bool := match x.target with
      | some i => decide (x.kind = .write) && (s.station i).toggle
      | none => false
    let first : TxChar := { data := address, mark := true }
    let begun : Attempt :=
      { Attempt.blank with
        address := address
        control := 0#3 ++ BitVec.ofBool toggle ++ x.kind.code
        toggle := toggle
        sent := 1
        sendCheck := checkFeed 0xFFFF#16 address }
    (s.le.params.turnaround ≠ 0 ∨ s.pins.clock = false →
      startAttempt x s =
        { s with
          li := { s.li with
            tx := .turnaround (16 * s.le.params.turnaround.toNat), supplied := some first
            monitor := .active
            quietTimer := if s.pins.clock then 0 else s.li.quietTimer }
          le := { s.le with state := .turnaround, current := some x, attempt := begun } }) ∧
    (s.le.params.turnaround = 0 → s.pins.clock = true →
      startAttempt x s =
        { s with
          li := { s.li with
            tx := .sending first 0 none, supplied := none, rx := .echoing Shift.fresh
            oldRate := none, monitor := .active, quietTimer := 0 }
          le := { s.le with
            state := .sending
            current := some x
            attempt :=
              if x.kind = .timesync then { begun with latched := s.tb.counter } else begun } }) ∧
    [CommandKind.poll, .read, .write, .probe, .bcast, .timesync].map CommandKind.code =
      [1, 2, 3, 4, 5, 6] ∧
    Attempt.blank =
      { stray := false, pending := false, window := none, windowOut := false, gap := none,
        address := 0, control := 0, toggle := false, sent := 0, sendCheck := 0xFFFF#16,
        latched := 0, taken := 0, replyAddress := 0, replyControl := 0, replyLength := 0,
        replyCheck := 0xFFFF#16, checkLow := 0, markCause := none }) ∧
  (∀ (s : State) (x : Transaction),
    let a := s.le.attempt
    let n := x.sendLength
    s.frameByte x 0 = some a.address ∧ s.frameByte x 1 = some a.control ∧
    s.frameByte x 2 = some (BitVec.ofNat 8 n) ∧
    (∀ k, k < n → s.frameByte x (3 + k) = some (s.sendByte x k)) ∧
    s.frameByte x (3 + n) = some (a.sendCheck.extractLsb' 0 8) ∧
    s.frameByte x (4 + n) = some (a.sendCheck.extractLsb' 8 8) ∧
    s.frameByte x (5 + n) = none ∧
    (∀ tag, x.origin = .request tag → x.kind = .timesync →
      n = 4 ∧ ∀ k, s.sendByte x k = a.latched.extractLsb' (8 * k) 8) ∧
    (∀ tag, x.origin = .request tag → x.kind ≠ .timesync →
      n = x.length.toNat ∧
        ∀ k b, x.payload[k / 32]? = some b →
          s.sendByte x k = s.fs.mem.read (b.val * 32 + k % 32)) ∧
    (x.origin = .pollSlot ∨ x.origin = .probe → n = 0) ∧
    (x.origin = .readSlot → n = 1 ∧ s.sendByte x 0 = x.selector) ∧
    (∀ v, s.frameByte x a.sent = some v →
      s.supplyNext x =
        { s with
          li := { s.li with supplied := some { data := v, mark := false } }
          le := { s.le with
            attempt := { a with
              sent := a.sent + 1
              sendCheck := if a.sent < 3 + n then checkFeed a.sendCheck v else a.sendCheck } } }))

/-- BREAK_DONE_REPORT (R13, R36, R60, R62): a break that waited begins its low period and the engine
is left; otherwise the driver is released, and BREAKING ends in STOPPED, with LINE_STOPPED (E9),
when the stop mark is set or the break was ordered there, else in IDLE. BREAK_REPORT (R7, R46): an
armed count is disarmed, BREAK_SEEN (E7) is raised, and an attempt in AWAITING or RECEIVING ends
CORRUPT FRAMING. HELD_LOW_END (R6, R13): the receiver hunts again. Without their cause nothing
happens (the model's choice, log 2). -/
def Obligations.BreakRows : Prop :=
  (∀ s : State, s.timeRuns = true →
    let t : State :=
      { s with li := { s.li with tx := .released, rx := .heldLow 16 [] false } }
    (∀ n, s.li.tx = .breakHigh n → s.li.breakWaiting = true →
      exec .breakDoneReport s = .next
        { s with
          li := { s.li with
            tx := .breakLow 0, breakWaiting := false, rx := .heldLow 0 [] false, oldRate := none,
            monitor := .active, quietTimer := 0 } }) ∧
    (∀ n, s.li.tx = .breakHigh n → s.li.breakWaiting = false → s.le.state = .breaking →
      s.le.stopMark = true ∨ s.le.breakFromStopped = true →
      exec .breakDoneReport s = .next
        (({ t with
          le := { t.le with state := .stopped, stopMark := false }
          eu := { t.eu with latches := t.eu.latches ||| 0x200#12 } } : State).settle)) ∧
    (∀ n, s.li.tx = .breakHigh n → s.li.breakWaiting = false → s.le.state = .breaking →
      s.le.stopMark = false → s.le.breakFromStopped = false →
      exec .breakDoneReport s =
        .next (({ t with le := { t.le with state := .idle } } : State).settle)) ∧
    (∀ n, s.li.tx = .breakHigh n → s.li.breakWaiting = false → s.le.state ≠ .breaking →
      exec .breakDoneReport s = .next t.settle) ∧
    ((∀ n, s.li.tx ≠ .breakHigh n) → exec .breakDoneReport s = .next s)) ∧
  (∀ s : State, s.timeRuns = true →
    let l := s.li.pastLastStopBit
    let t : State :=
      { s with
        li := { s.li with rx := .heldLow 345 [] false, lastSample := false }
        eu := { s.eu with latches := s.eu.latches ||| 0x080#12 } }
    (∀ n v x, s.li.rx = .heldLow n v true → s.le.state = .awaiting ∨ s.le.state = .receiving →
      s.le.current = some x →
      exec .breakReport s = .next (attemptEnds x (.corrupt .framing) t).settle) ∧
    (∀ n v, s.li.rx = .heldLow n v true → s.le.state ≠ .awaiting → s.le.state ≠ .receiving →
      exec .breakReport s = .next t) ∧
    ((∀ n v, s.li.rx ≠ .heldLow n v true) → exec .breakReport s = .next s) ∧
    (∀ n v armed, l.rx = .heldLow n v armed → l.tx.breaking = false →
      exec .heldLowEnd s =
        .next { s with li := { l with lastSample := true, rx := .hunting none } }) ∧
    ((∀ n v armed, l.rx ≠ .heldLow n v armed) ∨ l.tx.breaking = true →
      exec .heldLowEnd s = .next s))

/-! ## Attempts and transactions -/

/-- What the result of an attempt leads to (R48 to R51): a reply or OVERLENGTH or SENT ends the
transaction; a failure is kept as the last one and leads to the retry decision, a collision leads
there too; a BUSY reply leads to the busy decision. A deferral (R51): the reservation is freed, and
the transaction goes to the end of the deferred list with one more BUSY counted and the holdoff
loaded, under a name no other entry has; the engine is IDLE, or STOPPED when the stop mark was set
(R60). -/
def Obligations.AttemptResults : Prop :=
  (∀ (s : State) (x : Transaction),
    (∀ k len e b, k ≠ .busy →
      attemptEnds x (.reply k len e b) s = endTransaction x (.reply k len e b) s) ∧
    (∀ k, attemptEnds x (.overlength k) s = endTransaction x (.overlength k) s) ∧
    attemptEnds x .sent s = endTransaction x .sent s ∧
    (∀ (r : Result) (y : Transaction),
      (r = .noReply ∧ y = { x with lastFailure := some .noReply }) ∨
      (∃ c, r = .corrupt c ∧ y = { x with lastFailure := some (.corrupt c) }) ∨
      (r = .wrongStation ∧ y = { x with lastFailure := some .wrongStation }) ∨
      (r = .collision ∧ y = x) →
      let h : State :=
        { s with le := { s.le with
          state := .holding, current := some y, attempt := Attempt.blank } }
      (x.cancel = true ∨ 1 + x.retryLimit.toNat ≤ x.attempts.toNat →
        attemptEnds x r s = endTransaction y y.roundResult s) ∧
      (x.cancel = false → x.attempts.toNat < 1 + x.retryLimit.toNat → s.li.monitor = .active →
        attemptEnds x r s = h) ∧
      (x.cancel = false → x.attempts.toNat < 1 + x.retryLimit.toNat → s.li.monitor = .quiet →
        s.targetLost y = true → attemptEnds x r s = endTransaction y y.roundResult h) ∧
      (x.cancel = false → x.attempts.toNat < 1 + x.retryLimit.toNat → s.li.monitor = .quiet →
        s.targetLost y = false →
        attemptEnds x r s = startAttempt { y with attempts := y.attempts + 1 } h)) ∧
    (∀ i len e b, x.target = some i →
      let t := s.busyReport i
      let defers : Prop :=
        x.cancel = false ∧ x.busyCount.toNat < (s.station i).busyLimit.toNat ∧
          s.le.deferred.length < 4
      (¬defers → attemptEnds x (.reply .busy len e b) s = endTransaction x (.reply .busy 0 false 0) t) ∧
      (defers → attemptEnds x (.reply .busy len e b) s = t.defer x)) ∧
    (x.lastFailure = none → x.roundResult = .collision) ∧
    (x.lastFailure = some .noReply → x.roundResult = .noReply) ∧
    (∀ c, x.lastFailure = some (.corrupt c) → x.roundResult = .corrupt c) ∧
    (x.lastFailure = some .wrongStation → x.roundResult = .wrongStation)) ∧
  (∀ (s : State) (x : Transaction), s.DeferredWf → s.le.deferred.length < 4 →
    ∃ i : Fin 4, (∀ d ∈ s.le.deferred, d.id ≠ i) ∧
      let d : Deferred :=
        { id := i, txn := { x with busyCount := x.busyCount + 1, reservation := [] },
          holdoff := s.le.params.holdoff }
      s.defer x =
        { s with
          fs := { s.fs with free := s.fs.free ++ x.reservation }
          le := { s.le with
            state := if s.le.stopMark then .stopped else .idle
            stopMark := false
            current := none
            attempt := Attempt.blank
            deferred := s.le.deferred ++ [d] }
          eu := { s.eu with
            latches := if s.le.stopMark then s.eu.latches ||| 0x200#12 else s.eu.latches } })

/-- The end of a transaction (R56): the payload chain and the reserved blocks that no kept byte
needs are freed, the station report is made, the record of a request is posted, and the engine is
IDLE, or STOPPED when the stop mark was set (R60). A cycle item's reply is installed instead (R149).
The outcome, the class, the toggle change and the reply kind of each final result (R31 to R33, R55,
R77, R131), and what is kept of its reply (R28, R131, R148). -/
def Obligations.TransactionEnd : Prop :=
  (∀ (s : State) (x : Transaction) (r : Result),
    let kept := r.keptBlocks x.reservation.length
    let chain := x.reservation.take kept
    let s1 : State :=
      { s with
        fs := { s.fs with
          free := s.fs.free ++ x.payload ++ x.reservation.drop kept } }
    let s2 : State := match x.target with
      | some i => s1.stationReport i r.report
      | none => s1
    let freed (t : State) : State :=
      { t with
        le := { t.le with
          state := if s.le.stopMark then .stopped else .idle
          stopMark := false, current := none, attempt := Attempt.blank }
        eu := { t.eu with
          latches := if s.le.stopMark then t.eu.latches ||| 0x200#12 else t.eu.latches } }
    (∀ tag, x.origin = .request tag →
      endTransaction x r s = freed (s2.post
        { tag := tag, kind := x.kind, station := x.target
          outcome := r.outcome s.le.attempt.toggle
          attempts := x.attempts, busyCount := x.busyCount
          cause := match r with
            | .corrupt c => some c
            | _ => none
          replyKind := r.replyKind
          replyLength := r.replyLength x.reservation.length
          chain := chain
          nakReason := match r with
            | .reply .nak _ _ v => some v
            | _ => none
          cancel := x.cancel
          stamp := 0 })) ∧
    (∀ i len e b, x.isRequest = false → x.target = some i → (s.station i).state ≠ .disabled →
      (r = .reply .data len e b → endTransaction x r s = freed (s2.install i chain len .data)) ∧
      (r = .reply .ident len e b → endTransaction x r s = freed (s2.install i chain len .ident))) ∧
    (∀ i, x.isRequest = false → x.target = some i →
      (s.station i).state = .disabled ∨
        ((∀ len e b, r ≠ .reply .data len e b) ∧ ∀ len e b, r ≠ .reply .ident len e b) →
      endTransaction x r s =
        freed { s2 with fs := { s2.fs with free := s2.fs.free ++ chain } })) ∧
  (∀ (sent e : Bool) (n : BitVec 7) (b : Byte) (c : Cause) (k : ReplyKind) (blocks : Nat),
    let row (r : Result) (o : ReqOutcome) (cls : ReportClass) (t : Option Bool) : Prop :=
      r.outcome sent = o ∧ r.report.cls = cls ∧ r.report.toggle = t
    row (.reply .data n e b) .ok .answered none ∧
    row (.reply .ack n sent b) .ok .answered (some !sent) ∧
    row (.reply .ack n (!sent) b) .sequence .answered (some sent) ∧
    row (.reply .nak n e b) .nak .answered none ∧
    row (.reply .busy n e b) .busyExhausted .answered none ∧
    row (.reply .ident n e b) .ok .answered (some false) ∧
    row (.overlength .ident) .overlength .answered (some false) ∧
    (k ≠ .ident → row (.overlength k) .overlength .answered none) ∧
    row .noReply .noReply .failed none ∧
    row (.corrupt c) .corrupt .failed none ∧
    row .wrongStation .wrongStation .failed none ∧
    row .collision .collision .neither none ∧
    row .sent .sent .neither none ∧
    (∀ r : Result,
      r.report.kind = r.replyKind ∧
      (r = .noReply ∨ (∃ c, r = .corrupt c) ∨ r = .wrongStation ∨ r = .collision ∨ r = .sent →
        r.replyKind = none ∧ r.replyLength blocks = none ∧ r.keptBlocks blocks = 0) ∧
      ((∀ n e b, r ≠ .reply .ident n e b) → r.report.identClass = none)) ∧
    (Result.reply k n e b).replyKind = some k ∧ (Result.overlength k).replyKind = some k ∧
    (Result.reply .ident n e b).report.identClass = some b ∧
    (Result.overlength k).report.identClass = none ∧
    (Result.reply k n e b).replyLength blocks = some n ∧
    (Result.reply k n e b).keptBlocks blocks = (n.toNat + 31) / 32 ∧
    (Result.overlength k).replyLength blocks = some (BitVec.ofNat 7 (32 * blocks)) ∧
    (Result.overlength k).keptBlocks blocks = blocks)

/-! ## The arbiter -/

/-- The order of the candidates (R110): the oldest expired deferred entry, the urgent head, the
normal head once the normal share is reached, the cycle's offer, the normal head. The reservation a
candidate of each source needs (R115) and the transaction it becomes (R37, R53, R99, R100, R118). -/
def Obligations.ArbiterOrder : Prop :=
  (∀ s : State,
    let share := s.le.params.share.toNat
    (∀ i rest d, s.DeferredWf → s.le.expired = i :: rest → d ∈ s.le.deferred → d.id = i →
      s.candidate = some (.deferred d)) ∧
    (∀ r rest, s.le.expired = [] → s.ru.urgent = r :: rest →
      s.candidate = some (.urgent r rest)) ∧
    (∀ r rest, s.le.expired = [] → s.ru.urgent = [] → s.ru.normal = r :: rest →
      share ≠ 0 → share ≤ s.pollRun.toNat → s.candidate = some (.normal r rest)) ∧
    (∀ o, s.le.expired = [] → s.ru.urgent = [] → s.offer = some o →
      s.ru.normal = [] ∨ share = 0 ∨ s.pollRun.toNat < share →
      s.candidate = some (.offer o)) ∧
    (∀ r rest, s.le.expired = [] → s.ru.urgent = [] → s.ru.normal = r :: rest → s.offer = none →
      s.candidate = some (.normal r rest)) ∧
    (s.le.expired = [] → s.ru.urgent = [] → s.ru.normal = [] → s.offer = none →
      s.candidate = none ∧ s.bufferWait = false)) ∧
  (∀ (s : State) (chain : Chain),
    (∀ r rest,
      let x : Transaction :=
        { origin := .request r.tag, target := r.station, kind := r.kind, payload := r.payload
          length := r.length, selector := 0, blocksOverride := r.blocks, reservation := chain
          retryLimit :=
            match r.retry, r.station with
            | some n, _ => n
            | none, some i => (s.station i).retryLimit
            | none, none => 0
          attempts := 1, busyCount := 0, lastFailure := none, cancel := false }
      let need : Nat :=
        match r.station, r.blocks with
        | none, _ => 0
        | some _, some b => b.toNat
        | some i, none => (s.station i).replyBlocks.toNat
      (Candidate.urgent r rest).transaction s chain = x ∧
      (Candidate.normal r rest).transaction s chain = x ∧
      (Candidate.urgent r rest).need s = need ∧ (Candidate.normal r rest).need s = need) ∧
    (∀ y : Slot,
      (Candidate.offer (.slot y)).transaction s chain =
        { origin := match y.kind with
            | .poll => .pollSlot
            | .read => .readSlot
          target := some y.station
          kind := match y.kind with
            | .poll => .poll
            | .read => .read
          payload := [], length := 0, selector := y.selector, blocksOverride := none
          reservation := chain, retryLimit := (s.station y.station).retryLimit
          attempts := 1, busyCount := 0, lastFailure := none, cancel := false } ∧
      (Candidate.offer (.slot y)).need s = (s.station y.station).replyBlocks.toNat) ∧
    (∀ i : Fin 32,
      (Candidate.offer (.probe i)).transaction s chain =
        { origin := .probe, target := some i, kind := .probe, payload := [], length := 0
          selector := 0, blocksOverride := none, reservation := chain
          retryLimit := (s.station i).retryLimit
          attempts := 1, busyCount := 0, lastFailure := none, cancel := false } ∧
      (Candidate.offer (.probe i)).need s = (s.station i).replyBlocks.toNat) ∧
    ∀ d : Deferred,
      (Candidate.deferred d).transaction s chain =
        { d.txn with reservation := chain, attempts := 1, lastFailure := none } ∧
      (d.txn.target = none → (Candidate.deferred d).need s = 0) ∧
      ∀ i, d.txn.target = some i →
        (∀ b, d.txn.blocksOverride = some b → (Candidate.deferred d).need s = b.toNat) ∧
        (d.txn.blocksOverride = none →
          (Candidate.deferred d).need s = (s.station i).replyBlocks.toNat))

/-- The station check (R113), and what it does to the head of a queue that fails it: its payload
chain is freed and its record posted (R114). A deferred request is checked alike, and a deferred
slot item is dropped when its station is not ONLINE or DEGRADED (R53). -/
def Obligations.StationCheck : Prop :=
  (∀ st : StationState, st ≠ .unconfigured → ∀ k : CommandKind, k = .read ∨ k = .write ∨ k = .probe →
    stationCheck k st =
      match st with
      | .offline => if k = .probe then none else some .stationOffline
      | .mismatched => if k = .probe then none else some .stationMismatch
      | .disabled => some .stationDisabled
      | _ => none) ∧
  ∀ s : State,
    (∀ r rest i, r.station = some i →
      (stationCheck r.kind (s.station i).state = none →
        (Candidate.urgent r rest).turnedAway s = none ∧
        (Candidate.normal r rest).turnedAway s = none) ∧
      ∀ o, stationCheck r.kind (s.station i).state = some o →
        (Candidate.urgent r rest).turnedAway s = some
          ((({ s with
            ru := { s.ru with urgent := rest }
            fs := { s.fs with free := s.fs.free ++ r.payload } } : State).post
              (r.record o false))) ∧
        (Candidate.normal r rest).turnedAway s = some
          ((({ s with
            ru := { s.ru with normal := rest }
            fs := { s.fs with free := s.fs.free ++ r.payload } } : State).post
              (r.record o false)))) ∧
    (∀ r rest, r.station = none →
      (Candidate.urgent r rest).turnedAway s = none ∧
      (Candidate.normal r rest).turnedAway s = none) ∧
    (∀ d i tag, d.txn.target = some i → d.txn.origin = .request tag →
      (stationCheck d.txn.kind (s.station i).state = none →
        (Candidate.deferred d).turnedAway s = none) ∧
      ∀ o, stationCheck d.txn.kind (s.station i).state = some o →
        (Candidate.deferred d).turnedAway s = some
          ((s.removeDeferred d.id).freeChain d.txn.payload |>.post
            (d.txn.record tag o false))) ∧
    (∀ d i, d.txn.target = some i → d.txn.origin = .pollSlot ∨ d.txn.origin = .readSlot →
      ((s.station i).state = .online ∨ (s.station i).state = .degraded →
        (Candidate.deferred d).turnedAway s = none) ∧
      ((s.station i).state ≠ .online → (s.station i).state ≠ .degraded →
        (Candidate.deferred d).turnedAway s = some (s.removeDeferred d.id))) ∧
    (∀ o, (Candidate.offer o).turnedAway s = none) ∧
    ∀ chain, s.freeChain chain = { s with fs := { s.fs with free := s.fs.free ++ chain } }

/-- What the arbiter does in the moment of a change (R109, R116 to R118): a candidate its check ends
makes room for the next choice; one whose blocks are there leaves its source (the deferred list and
the expiry order, the head of its queue, or the cycle's offer) and is dispatched, and the poll run
counter follows (R112); one whose blocks are not there waits, and BUFFER_WAIT is true; an arbiter
that does not act, or has no candidate, changes nothing. -/
def Obligations.ArbiterChooses : Prop :=
  ∀ s : State, s.OfferFormed →
    (∀ c t, s.DeferredWf → s.arbiterActs = true → s.candidate = some c → c.turnedAway s = some t →
      s.settle = t.settle) ∧
    (∀ c, s.arbiterActs = true → s.candidate = some c → c.turnedAway s = none →
      c.need s ≤ s.freeCount →
      let t : State := { s with fs := { s.fs with free := s.fs.free.drop (c.need s) } }
      let u := c.leaveSource t
      s.settle =
        startAttempt (c.transaction t (s.fs.free.take (c.need s)))
          { u with
            pollRun :=
              match c with
              | .offer _ => if s.pollRun = 15 then 15 else s.pollRun + 1
              | .normal _ _ => 0
              | .urgent _ _ | .deferred _ => s.pollRun }) ∧
    (∀ c, s.arbiterActs = true → s.candidate = some c → c.turnedAway s = none →
      s.freeCount < c.need s → s.settle = s ∧ s.bufferWait = true) ∧
    (s.arbiterActs = false ∨ s.candidate = none → s.settle = s ∧ s.bufferWait = false) ∧
    (s.arbiterActs = true ↔
      s.le.state = .idle ∧ s.li.monitor = .quiet ∧ s.le.stopMark = false) ∧
    (∀ d,
      let removed : State :=
        { s with
          le := { s.le with
            deferred := s.le.deferred.filter fun x => decide (x.id ≠ d.id)
            expired := s.le.expired.filter fun j => decide (j ≠ d.id) } }
      s.removeDeferred d.id = removed ∧ (Candidate.deferred d).leaveSource s = removed) ∧
    (∀ r rest,
      (Candidate.urgent r rest).leaveSource s =
        { s with ru := { s.ru with urgent := rest } } ∧
      (Candidate.normal r rest).leaveSource s =
        { s with ru := { s.ru with normal := rest } }) ∧
    (∀ o, (Candidate.offer o).leaveSource s = s.takeOffer o)

/-- What the moment of a choice leaves alone, whatever it dispatches: the time base, the staging
area, the parameters, the change queue, the snapshots, the cursor, the bytes of the store, the
enables and routes, the registers of the bus, the pins, and every field of a station entry but the
countdown. -/
def Obligations.SettleFrame : Prop :=
  ∀ s : State,
    let t := s.settle
    t.tb = s.tb ∧ t.ru.staging = s.ru.staging ∧ t.le.params = s.le.params ∧
    t.le.stopMark = s.le.stopMark ∧ t.st.changes = s.st.changes ∧
    t.fs.snapshots = s.fs.snapshots ∧ t.fs.cursor = s.fs.cursor ∧ t.fs.mem = s.fs.mem ∧
    t.eu.enables = s.eu.enables ∧ t.eu.routes = s.eu.routes ∧ t.bi = s.bi ∧ t.pins = s.pins ∧
    t.lineIn = s.lineIn ∧ t.choice = s.choice ∧ t.pending = s.pending ∧
    t.cu.bankA = s.cu.bankA ∧ t.cu.bankB = s.cu.bankB ∧
    (∃ more, t.cq.ring = s.cq.ring ++ more) ∧
    (∀ i, (s.station i) = { t.station i with countdown := (s.station i).countdown }) ∧
    (s.le.state ≠ .idle → t.le = s.le ∧ t.li = s.li ∧ t.ru = s.ru ∧ t.cq = s.cq ∧ t.fs = s.fs)

/-! ## Invariants that every step keeps -/

/-- Each of the 128 blocks stays in exactly one place: the free list or one owner (R144). -/
def Obligations.BlocksStayAccounted : Prop :=
  ∀ s t : State, s.TransactionsWf → s.BlocksAccounted → step s = .next t → t.BlocksAccounted

/-- The reserved count stays the number of requests not yet posted, and with the records it never
exceeds 32 (R127); the queues keep their bounds (R126). -/
def Obligations.SlotsStayAccounted : Prop :=
  ∀ s t : State, s.TransactionsWf → s.SlotsAccounted → step s = .next t → t.SlotsAccounted

/-- The engine holds a transaction in exactly the states of section 3.1, the deferred list stays
well formed (R52, R54), and the stop mark is set only where something is still to end (R59). -/
def Obligations.TransactionsStayWellFormed : Prop :=
  ∀ s t : State, s.TransactionsWf → s.StopMarkFits → step s = .next t →
    t.TransactionsWf ∧ t.StopMarkFits

/-- The configuration and the fail count of every entry stay as R66 and R74 say, and no two
configured entries share an address (R67). -/
def Obligations.StationsStayFit : Prop :=
  ∀ s t : State, s.StationsFit → s.AddressesDistinct → step s = .next t →
    t.StationsFit ∧ t.AddressesDistinct

/-- A next reply stays only with a pin, a pin only with a current reply (R151, R153), and the cursor
only on a chain that is there (R139, R154). -/
def Obligations.SnapshotsAndCursorStayFit : Prop :=
  ∀ s t : State, s.SnapshotsFit → s.CursorFits → step s = .next t → t.SnapshotsFit ∧ t.CursorFits

/-- Every reply kept has the blocks its length needs, and what the cursor has read and what remains
make up the length of the reply under it, so that every byte it may read is there (R28, R131, R148,
R158). -/
def Obligations.RepliesStayReadable : Prop :=
  ∀ s t : State, s.SnapshotsFit → s.CursorFits → s.RepliesFit → step s = .next t → t.RepliesFit

/-- The bytes of the store stay in canonical form, the conditions never have a latch (R168), the
line parameters stay in range (section 3.9), a station has at most one notice (R85) and at most 96
bytes are staged (R122). -/
def Obligations.SmallInvariantsKept : Prop :=
  ∀ s t : State, step s = .next t →
    (s.MemoryFits → t.MemoryFits) ∧ (s.LatchesFit → t.LatchesFit) ∧ (s.ParamsFit → t.ParamsFit) ∧
      (s.NoticesDistinct → t.NoticesDistinct) ∧ (s.StagingFits → t.StagingFits)

/-- After every step the cycle has its offer and the arbiter has nothing left to do: it does not
act, or has no candidate, or waits for blocks (R98, R100, R109, R117). -/
def Obligations.NothingIsLeftUndone : Prop :=
  ∀ s t : State, s.Settled → step s = .next t → t.Settled

/-- The invariants hold right after reset. -/
def Obligations.InvariantsAtReset : Prop :=
  let s := State.reset
  s.TransactionsWf ∧ s.StopMarkFits ∧ s.BlocksAccounted ∧ s.SlotsAccounted ∧ s.StationsFit ∧
    s.AddressesDistinct ∧ s.SnapshotsFit ∧ s.CursorFits ∧ s.MemoryFits ∧ s.LatchesFit ∧
    s.ParamsFit ∧ s.NoticesDistinct ∧ s.RepliesFit ∧ s.StagingFits ∧ s.Settled
end

