-- ==== Sys2Proof/Laws/State.lean ====
section
/-! SUPPORT. What each update of the state leaves in each field: one lemma per field per update. -/

namespace Sys2Proof.Machine

/-! ## setStation -/

@[simp] theorem State.setStation_li (s : State) (i : Fin 32) (e : Station) :
    (s.setStation i e).li = s.li := rfl

@[simp] theorem State.setStation_le (s : State) (i : Fin 32) (e : Station) :
    (s.setStation i e).le = s.le := rfl

@[simp] theorem State.setStation_st (s : State) (i : Fin 32) (e : Station) :
    (s.setStation i e).st = { s.st with entries := s.st.entries.set i e } := rfl

@[simp] theorem State.setStation_cu (s : State) (i : Fin 32) (e : Station) :
    (s.setStation i e).cu = s.cu := rfl

@[simp] theorem State.setStation_pollRun (s : State) (i : Fin 32) (e : Station) :
    (s.setStation i e).pollRun = s.pollRun := rfl

@[simp] theorem State.setStation_ru (s : State) (i : Fin 32) (e : Station) :
    (s.setStation i e).ru = s.ru := rfl

@[simp] theorem State.setStation_cq (s : State) (i : Fin 32) (e : Station) :
    (s.setStation i e).cq = s.cq := rfl

@[simp] theorem State.setStation_fs (s : State) (i : Fin 32) (e : Station) :
    (s.setStation i e).fs = s.fs := rfl

@[simp] theorem State.setStation_tb (s : State) (i : Fin 32) (e : Station) :
    (s.setStation i e).tb = s.tb := rfl

@[simp] theorem State.setStation_eu (s : State) (i : Fin 32) (e : Station) :
    (s.setStation i e).eu = s.eu := rfl

@[simp] theorem State.setStation_bi (s : State) (i : Fin 32) (e : Station) :
    (s.setStation i e).bi = s.bi := rfl

@[simp] theorem State.setStation_pins (s : State) (i : Fin 32) (e : Station) :
    (s.setStation i e).pins = s.pins := rfl

@[simp] theorem State.setStation_lineIn (s : State) (i : Fin 32) (e : Station) :
    (s.setStation i e).lineIn = s.lineIn := rfl

@[simp] theorem State.setStation_choice (s : State) (i : Fin 32) (e : Station) :
    (s.setStation i e).choice = s.choice := rfl

@[simp] theorem State.setStation_pending (s : State) (i : Fin 32) (e : Station) :
    (s.setStation i e).pending = s.pending := rfl

/-! ## mapStations -/

@[simp] theorem State.mapStations_li (s : State) (f : Station → Station) :
    (s.mapStations f).li = s.li := by
  unfold State.mapStations; rfl

@[simp] theorem State.mapStations_le (s : State) (f : Station → Station) :
    (s.mapStations f).le = s.le := by
  unfold State.mapStations; rfl

@[simp] theorem State.mapStations_st (s : State) (f : Station → Station) :
    (s.mapStations f).st = { s.st with entries := Vector.ofFn fun i => f (s.st.entries.get i) } := by
  unfold State.mapStations; rfl

@[simp] theorem State.mapStations_cu (s : State) (f : Station → Station) :
    (s.mapStations f).cu = s.cu := by
  unfold State.mapStations; rfl

@[simp] theorem State.mapStations_pollRun (s : State) (f : Station → Station) :
    (s.mapStations f).pollRun = s.pollRun := by
  unfold State.mapStations; rfl

@[simp] theorem State.mapStations_ru (s : State) (f : Station → Station) :
    (s.mapStations f).ru = s.ru := by
  unfold State.mapStations; rfl

@[simp] theorem State.mapStations_cq (s : State) (f : Station → Station) :
    (s.mapStations f).cq = s.cq := by
  unfold State.mapStations; rfl

@[simp] theorem State.mapStations_fs (s : State) (f : Station → Station) :
    (s.mapStations f).fs = s.fs := by
  unfold State.mapStations; rfl

@[simp] theorem State.mapStations_tb (s : State) (f : Station → Station) :
    (s.mapStations f).tb = s.tb := by
  unfold State.mapStations; rfl

@[simp] theorem State.mapStations_eu (s : State) (f : Station → Station) :
    (s.mapStations f).eu = s.eu := by
  unfold State.mapStations; rfl

@[simp] theorem State.mapStations_bi (s : State) (f : Station → Station) :
    (s.mapStations f).bi = s.bi := by
  unfold State.mapStations; rfl

@[simp] theorem State.mapStations_pins (s : State) (f : Station → Station) :
    (s.mapStations f).pins = s.pins := by
  unfold State.mapStations; rfl

@[simp] theorem State.mapStations_lineIn (s : State) (f : Station → Station) :
    (s.mapStations f).lineIn = s.lineIn := by
  unfold State.mapStations; rfl

@[simp] theorem State.mapStations_choice (s : State) (f : Station → Station) :
    (s.mapStations f).choice = s.choice := by
  unfold State.mapStations; rfl

@[simp] theorem State.mapStations_pending (s : State) (f : Station → Station) :
    (s.mapStations f).pending = s.pending := by
  unfold State.mapStations; rfl

/-! ## clearToggles -/

@[simp] theorem State.clearToggles_li (s : State) :
    (s.clearToggles).li = s.li := by
  unfold State.clearToggles; simp

@[simp] theorem State.clearToggles_le (s : State) :
    (s.clearToggles).le = s.le := by
  unfold State.clearToggles; simp

@[simp] theorem State.clearToggles_st (s : State) :
    (s.clearToggles).st = (s.mapStations fun e => { e with toggle := false }).st := by
  unfold State.clearToggles; simp

@[simp] theorem State.clearToggles_cu (s : State) :
    (s.clearToggles).cu = s.cu := by
  unfold State.clearToggles; simp

@[simp] theorem State.clearToggles_pollRun (s : State) :
    (s.clearToggles).pollRun = s.pollRun := by
  unfold State.clearToggles; simp

@[simp] theorem State.clearToggles_ru (s : State) :
    (s.clearToggles).ru = s.ru := by
  unfold State.clearToggles; simp

@[simp] theorem State.clearToggles_cq (s : State) :
    (s.clearToggles).cq = s.cq := by
  unfold State.clearToggles; simp

@[simp] theorem State.clearToggles_fs (s : State) :
    (s.clearToggles).fs = s.fs := by
  unfold State.clearToggles; simp

@[simp] theorem State.clearToggles_tb (s : State) :
    (s.clearToggles).tb = s.tb := by
  unfold State.clearToggles; simp

@[simp] theorem State.clearToggles_eu (s : State) :
    (s.clearToggles).eu = s.eu := by
  unfold State.clearToggles; simp

@[simp] theorem State.clearToggles_bi (s : State) :
    (s.clearToggles).bi = s.bi := by
  unfold State.clearToggles; simp

@[simp] theorem State.clearToggles_pins (s : State) :
    (s.clearToggles).pins = s.pins := by
  unfold State.clearToggles; simp

@[simp] theorem State.clearToggles_lineIn (s : State) :
    (s.clearToggles).lineIn = s.lineIn := by
  unfold State.clearToggles; simp

@[simp] theorem State.clearToggles_choice (s : State) :
    (s.clearToggles).choice = s.choice := by
  unfold State.clearToggles; simp

@[simp] theorem State.clearToggles_pending (s : State) :
    (s.clearToggles).pending = s.pending := by
  unfold State.clearToggles; simp

/-! ## raise -/

@[simp] theorem State.raise_li (s : State) (e : Event) :
    (s.raise e).li = s.li := rfl

@[simp] theorem State.raise_le (s : State) (e : Event) :
    (s.raise e).le = s.le := rfl

@[simp] theorem State.raise_st (s : State) (e : Event) :
    (s.raise e).st = s.st := rfl

@[simp] theorem State.raise_cu (s : State) (e : Event) :
    (s.raise e).cu = s.cu := rfl

@[simp] theorem State.raise_pollRun (s : State) (e : Event) :
    (s.raise e).pollRun = s.pollRun := rfl

@[simp] theorem State.raise_ru (s : State) (e : Event) :
    (s.raise e).ru = s.ru := rfl

@[simp] theorem State.raise_cq (s : State) (e : Event) :
    (s.raise e).cq = s.cq := rfl

@[simp] theorem State.raise_fs (s : State) (e : Event) :
    (s.raise e).fs = s.fs := rfl

@[simp] theorem State.raise_tb (s : State) (e : Event) :
    (s.raise e).tb = s.tb := rfl

@[simp] theorem State.raise_eu (s : State) (e : Event) :
    (s.raise e).eu = { s.eu with latches := s.eu.latches ||| e.bit } := rfl

@[simp] theorem State.raise_bi (s : State) (e : Event) :
    (s.raise e).bi = s.bi := rfl

@[simp] theorem State.raise_pins (s : State) (e : Event) :
    (s.raise e).pins = s.pins := rfl

@[simp] theorem State.raise_lineIn (s : State) (e : Event) :
    (s.raise e).lineIn = s.lineIn := rfl

@[simp] theorem State.raise_choice (s : State) (e : Event) :
    (s.raise e).choice = s.choice := rfl

@[simp] theorem State.raise_pending (s : State) (e : Event) :
    (s.raise e).pending = s.pending := rfl

/-! ## freeChain -/

@[simp] theorem State.freeChain_li (s : State) (c : Chain) :
    (s.freeChain c).li = s.li := rfl

@[simp] theorem State.freeChain_le (s : State) (c : Chain) :
    (s.freeChain c).le = s.le := rfl

@[simp] theorem State.freeChain_st (s : State) (c : Chain) :
    (s.freeChain c).st = s.st := rfl

@[simp] theorem State.freeChain_cu (s : State) (c : Chain) :
    (s.freeChain c).cu = s.cu := rfl

@[simp] theorem State.freeChain_pollRun (s : State) (c : Chain) :
    (s.freeChain c).pollRun = s.pollRun := rfl

@[simp] theorem State.freeChain_ru (s : State) (c : Chain) :
    (s.freeChain c).ru = s.ru := rfl

@[simp] theorem State.freeChain_cq (s : State) (c : Chain) :
    (s.freeChain c).cq = s.cq := rfl

@[simp] theorem State.freeChain_fs (s : State) (c : Chain) :
    (s.freeChain c).fs = { s.fs with free := s.fs.free ++ c } := rfl

@[simp] theorem State.freeChain_tb (s : State) (c : Chain) :
    (s.freeChain c).tb = s.tb := rfl

@[simp] theorem State.freeChain_eu (s : State) (c : Chain) :
    (s.freeChain c).eu = s.eu := rfl

@[simp] theorem State.freeChain_bi (s : State) (c : Chain) :
    (s.freeChain c).bi = s.bi := rfl

@[simp] theorem State.freeChain_pins (s : State) (c : Chain) :
    (s.freeChain c).pins = s.pins := rfl

@[simp] theorem State.freeChain_lineIn (s : State) (c : Chain) :
    (s.freeChain c).lineIn = s.lineIn := rfl

@[simp] theorem State.freeChain_choice (s : State) (c : Chain) :
    (s.freeChain c).choice = s.choice := rfl

@[simp] theorem State.freeChain_pending (s : State) (c : Chain) :
    (s.freeChain c).pending = s.pending := rfl

/-! ## setSnapshot -/

@[simp] theorem State.setSnapshot_li (s : State) (i : Fin 32) (x : Snapshot) :
    (s.setSnapshot i x).li = s.li := rfl

@[simp] theorem State.setSnapshot_le (s : State) (i : Fin 32) (x : Snapshot) :
    (s.setSnapshot i x).le = s.le := rfl

@[simp] theorem State.setSnapshot_st (s : State) (i : Fin 32) (x : Snapshot) :
    (s.setSnapshot i x).st = s.st := rfl

@[simp] theorem State.setSnapshot_cu (s : State) (i : Fin 32) (x : Snapshot) :
    (s.setSnapshot i x).cu = s.cu := rfl

@[simp] theorem State.setSnapshot_pollRun (s : State) (i : Fin 32) (x : Snapshot) :
    (s.setSnapshot i x).pollRun = s.pollRun := rfl

@[simp] theorem State.setSnapshot_ru (s : State) (i : Fin 32) (x : Snapshot) :
    (s.setSnapshot i x).ru = s.ru := rfl

@[simp] theorem State.setSnapshot_cq (s : State) (i : Fin 32) (x : Snapshot) :
    (s.setSnapshot i x).cq = s.cq := rfl

@[simp] theorem State.setSnapshot_fs (s : State) (i : Fin 32) (x : Snapshot) :
    (s.setSnapshot i x).fs = { s.fs with snapshots := s.fs.snapshots.set i x } := rfl

@[simp] theorem State.setSnapshot_tb (s : State) (i : Fin 32) (x : Snapshot) :
    (s.setSnapshot i x).tb = s.tb := rfl

@[simp] theorem State.setSnapshot_eu (s : State) (i : Fin 32) (x : Snapshot) :
    (s.setSnapshot i x).eu = s.eu := rfl

@[simp] theorem State.setSnapshot_bi (s : State) (i : Fin 32) (x : Snapshot) :
    (s.setSnapshot i x).bi = s.bi := rfl

@[simp] theorem State.setSnapshot_pins (s : State) (i : Fin 32) (x : Snapshot) :
    (s.setSnapshot i x).pins = s.pins := rfl

@[simp] theorem State.setSnapshot_lineIn (s : State) (i : Fin 32) (x : Snapshot) :
    (s.setSnapshot i x).lineIn = s.lineIn := rfl

@[simp] theorem State.setSnapshot_choice (s : State) (i : Fin 32) (x : Snapshot) :
    (s.setSnapshot i x).choice = s.choice := rfl

@[simp] theorem State.setSnapshot_pending (s : State) (i : Fin 32) (x : Snapshot) :
    (s.setSnapshot i x).pending = s.pending := rfl

/-! ## setCursor -/

@[simp] theorem State.setCursor_li (s : State) (c : Cursor) :
    (s.setCursor c).li = s.li := rfl

@[simp] theorem State.setCursor_le (s : State) (c : Cursor) :
    (s.setCursor c).le = s.le := rfl

@[simp] theorem State.setCursor_st (s : State) (c : Cursor) :
    (s.setCursor c).st = s.st := rfl

@[simp] theorem State.setCursor_cu (s : State) (c : Cursor) :
    (s.setCursor c).cu = s.cu := rfl

@[simp] theorem State.setCursor_pollRun (s : State) (c : Cursor) :
    (s.setCursor c).pollRun = s.pollRun := rfl

@[simp] theorem State.setCursor_ru (s : State) (c : Cursor) :
    (s.setCursor c).ru = s.ru := rfl

@[simp] theorem State.setCursor_cq (s : State) (c : Cursor) :
    (s.setCursor c).cq = s.cq := rfl

@[simp] theorem State.setCursor_fs (s : State) (c : Cursor) :
    (s.setCursor c).fs = { s.fs with cursor := c } := rfl

@[simp] theorem State.setCursor_tb (s : State) (c : Cursor) :
    (s.setCursor c).tb = s.tb := rfl

@[simp] theorem State.setCursor_eu (s : State) (c : Cursor) :
    (s.setCursor c).eu = s.eu := rfl

@[simp] theorem State.setCursor_bi (s : State) (c : Cursor) :
    (s.setCursor c).bi = s.bi := rfl

@[simp] theorem State.setCursor_pins (s : State) (c : Cursor) :
    (s.setCursor c).pins = s.pins := rfl

@[simp] theorem State.setCursor_lineIn (s : State) (c : Cursor) :
    (s.setCursor c).lineIn = s.lineIn := rfl

@[simp] theorem State.setCursor_choice (s : State) (c : Cursor) :
    (s.setCursor c).choice = s.choice := rfl

@[simp] theorem State.setCursor_pending (s : State) (c : Cursor) :
    (s.setCursor c).pending = s.pending := rfl

/-! ## exchangeBanks -/

@[simp] theorem State.exchangeBanks_li (s : State) :
    (s.exchangeBanks).li = s.li := rfl

@[simp] theorem State.exchangeBanks_le (s : State) :
    (s.exchangeBanks).le = s.le := rfl

@[simp] theorem State.exchangeBanks_st (s : State) :
    (s.exchangeBanks).st = s.st := rfl

@[simp] theorem State.exchangeBanks_cu (s : State) :
    (s.exchangeBanks).cu = { s.cu with active := s.cu.active.other, swapPending := false } := rfl

@[simp] theorem State.exchangeBanks_pollRun (s : State) :
    (s.exchangeBanks).pollRun = s.pollRun := rfl

@[simp] theorem State.exchangeBanks_ru (s : State) :
    (s.exchangeBanks).ru = s.ru := rfl

@[simp] theorem State.exchangeBanks_cq (s : State) :
    (s.exchangeBanks).cq = s.cq := rfl

@[simp] theorem State.exchangeBanks_fs (s : State) :
    (s.exchangeBanks).fs = s.fs := rfl

@[simp] theorem State.exchangeBanks_tb (s : State) :
    (s.exchangeBanks).tb = s.tb := rfl

@[simp] theorem State.exchangeBanks_eu (s : State) :
    (s.exchangeBanks).eu = s.eu := rfl

@[simp] theorem State.exchangeBanks_bi (s : State) :
    (s.exchangeBanks).bi = s.bi := rfl

@[simp] theorem State.exchangeBanks_pins (s : State) :
    (s.exchangeBanks).pins = s.pins := rfl

@[simp] theorem State.exchangeBanks_lineIn (s : State) :
    (s.exchangeBanks).lineIn = s.lineIn := rfl

@[simp] theorem State.exchangeBanks_choice (s : State) :
    (s.exchangeBanks).choice = s.choice := rfl

@[simp] theorem State.exchangeBanks_pending (s : State) :
    (s.exchangeBanks).pending = s.pending := rfl

/-! ## loadTimer -/

@[simp] theorem State.loadTimer_li (s : State) :
    (s.loadTimer).li = s.li := rfl

@[simp] theorem State.loadTimer_le (s : State) :
    (s.loadTimer).le = s.le := rfl

@[simp] theorem State.loadTimer_st (s : State) :
    (s.loadTimer).st = s.st := rfl

@[simp] theorem State.loadTimer_cu (s : State) :
    (s.loadTimer).cu = { s.cu with timer := if s.le.params.period = 0 then none else some s.le.params.period } := rfl

@[simp] theorem State.loadTimer_pollRun (s : State) :
    (s.loadTimer).pollRun = s.pollRun := rfl

@[simp] theorem State.loadTimer_ru (s : State) :
    (s.loadTimer).ru = s.ru := rfl

@[simp] theorem State.loadTimer_cq (s : State) :
    (s.loadTimer).cq = s.cq := rfl

@[simp] theorem State.loadTimer_fs (s : State) :
    (s.loadTimer).fs = s.fs := rfl

@[simp] theorem State.loadTimer_tb (s : State) :
    (s.loadTimer).tb = s.tb := rfl

@[simp] theorem State.loadTimer_eu (s : State) :
    (s.loadTimer).eu = s.eu := rfl

@[simp] theorem State.loadTimer_bi (s : State) :
    (s.loadTimer).bi = s.bi := rfl

@[simp] theorem State.loadTimer_pins (s : State) :
    (s.loadTimer).pins = s.pins := rfl

@[simp] theorem State.loadTimer_lineIn (s : State) :
    (s.loadTimer).lineIn = s.lineIn := rfl

@[simp] theorem State.loadTimer_choice (s : State) :
    (s.loadTimer).choice = s.choice := rfl

@[simp] theorem State.loadTimer_pending (s : State) :
    (s.loadTimer).pending = s.pending := rfl

/-! ## post -/

@[simp] theorem State.post_li (s : State) (r : Record) :
    (s.post r).li = s.li := rfl

@[simp] theorem State.post_le (s : State) (r : Record) :
    (s.post r).le = s.le := rfl

@[simp] theorem State.post_st (s : State) (r : Record) :
    (s.post r).st = s.st := rfl

@[simp] theorem State.post_cu (s : State) (r : Record) :
    (s.post r).cu = s.cu := rfl

@[simp] theorem State.post_pollRun (s : State) (r : Record) :
    (s.post r).pollRun = s.pollRun := rfl

@[simp] theorem State.post_ru (s : State) (r : Record) :
    (s.post r).ru = s.ru := rfl

@[simp] theorem State.post_cq (s : State) (r : Record) :
    (s.post r).cq = { ring := s.cq.ring ++ [{ r with stamp := s.tb.counter }], reserved := s.cq.reserved - 1 } := rfl

@[simp] theorem State.post_fs (s : State) (r : Record) :
    (s.post r).fs = s.fs := rfl

@[simp] theorem State.post_tb (s : State) (r : Record) :
    (s.post r).tb = s.tb := rfl

@[simp] theorem State.post_eu (s : State) (r : Record) :
    (s.post r).eu = { s.eu with latches := s.eu.latches ||| Event.completionPosted.bit } := rfl

@[simp] theorem State.post_bi (s : State) (r : Record) :
    (s.post r).bi = s.bi := rfl

@[simp] theorem State.post_pins (s : State) (r : Record) :
    (s.post r).pins = s.pins := rfl

@[simp] theorem State.post_lineIn (s : State) (r : Record) :
    (s.post r).lineIn = s.lineIn := rfl

@[simp] theorem State.post_choice (s : State) (r : Record) :
    (s.post r).choice = s.choice := rfl

@[simp] theorem State.post_pending (s : State) (r : Record) :
    (s.post r).pending = s.pending := rfl

/-! ## removeDeferred -/

@[simp] theorem State.removeDeferred_li (s : State) (i : Fin 4) :
    (s.removeDeferred i).li = s.li := rfl

@[simp] theorem State.removeDeferred_le (s : State) (i : Fin 4) :
    (s.removeDeferred i).le = { s.le with deferred := s.le.deferred.filter (fun d => decide (d.id ≠ i)), expired := s.le.expired.filter (fun j => decide (j ≠ i)) } := rfl

@[simp] theorem State.removeDeferred_st (s : State) (i : Fin 4) :
    (s.removeDeferred i).st = s.st := rfl

@[simp] theorem State.removeDeferred_cu (s : State) (i : Fin 4) :
    (s.removeDeferred i).cu = s.cu := rfl

@[simp] theorem State.removeDeferred_pollRun (s : State) (i : Fin 4) :
    (s.removeDeferred i).pollRun = s.pollRun := rfl

@[simp] theorem State.removeDeferred_ru (s : State) (i : Fin 4) :
    (s.removeDeferred i).ru = s.ru := rfl

@[simp] theorem State.removeDeferred_cq (s : State) (i : Fin 4) :
    (s.removeDeferred i).cq = s.cq := rfl

@[simp] theorem State.removeDeferred_fs (s : State) (i : Fin 4) :
    (s.removeDeferred i).fs = s.fs := rfl

@[simp] theorem State.removeDeferred_tb (s : State) (i : Fin 4) :
    (s.removeDeferred i).tb = s.tb := rfl

@[simp] theorem State.removeDeferred_eu (s : State) (i : Fin 4) :
    (s.removeDeferred i).eu = s.eu := rfl

@[simp] theorem State.removeDeferred_bi (s : State) (i : Fin 4) :
    (s.removeDeferred i).bi = s.bi := rfl

@[simp] theorem State.removeDeferred_pins (s : State) (i : Fin 4) :
    (s.removeDeferred i).pins = s.pins := rfl

@[simp] theorem State.removeDeferred_lineIn (s : State) (i : Fin 4) :
    (s.removeDeferred i).lineIn = s.lineIn := rfl

@[simp] theorem State.removeDeferred_choice (s : State) (i : Fin 4) :
    (s.removeDeferred i).choice = s.choice := rfl

@[simp] theorem State.removeDeferred_pending (s : State) (i : Fin 4) :
    (s.removeDeferred i).pending = s.pending := rfl

/-! ## clearStaging -/

@[simp] theorem State.clearStaging_li (s : State) :
    (s.clearStaging).li = s.li := rfl

@[simp] theorem State.clearStaging_le (s : State) :
    (s.clearStaging).le = s.le := rfl

@[simp] theorem State.clearStaging_st (s : State) :
    (s.clearStaging).st = s.st := rfl

@[simp] theorem State.clearStaging_cu (s : State) :
    (s.clearStaging).cu = s.cu := rfl

@[simp] theorem State.clearStaging_pollRun (s : State) :
    (s.clearStaging).pollRun = s.pollRun := rfl

@[simp] theorem State.clearStaging_ru (s : State) :
    (s.clearStaging).ru = { s.ru with staging := .cleared } := rfl

@[simp] theorem State.clearStaging_cq (s : State) :
    (s.clearStaging).cq = s.cq := rfl

@[simp] theorem State.clearStaging_fs (s : State) :
    (s.clearStaging).fs = s.fs := rfl

@[simp] theorem State.clearStaging_tb (s : State) :
    (s.clearStaging).tb = s.tb := rfl

@[simp] theorem State.clearStaging_eu (s : State) :
    (s.clearStaging).eu = s.eu := rfl

@[simp] theorem State.clearStaging_bi (s : State) :
    (s.clearStaging).bi = s.bi := rfl

@[simp] theorem State.clearStaging_pins (s : State) :
    (s.clearStaging).pins = s.pins := rfl

@[simp] theorem State.clearStaging_lineIn (s : State) :
    (s.clearStaging).lineIn = s.lineIn := rfl

@[simp] theorem State.clearStaging_choice (s : State) :
    (s.clearStaging).choice = s.choice := rfl

@[simp] theorem State.clearStaging_pending (s : State) :
    (s.clearStaging).pending = s.pending := rfl

/-! ## setBank -/

@[simp] theorem CycleUnit.setBank_a (c : CycleUnit) (x : Bank) :
    c.setBank .a x = { c with bankA := x } := rfl

@[simp] theorem CycleUnit.setBank_b (c : CycleUnit) (x : Bank) :
    c.setBank .b x = { c with bankB := x } := rfl

@[simp] theorem CycleUnit.bank_a (c : CycleUnit) : c.bank .a = c.bankA := rfl

@[simp] theorem CycleUnit.bank_b (c : CycleUnit) : c.bank .b = c.bankB := rfl

theorem CycleUnit.activeBank_a (c : CycleUnit) (h : c.active = .a) : c.activeBank = c.bankA := by
  simp [CycleUnit.activeBank, h]

theorem CycleUnit.activeBank_b (c : CycleUnit) (h : c.active = .b) : c.activeBank = c.bankB := by
  simp [CycleUnit.activeBank, h]

@[simp] theorem State.setBank_li (s : State) (n : BankName) (x : Bank) :
    (s.setBank n x).li = s.li := rfl

@[simp] theorem State.setBank_le (s : State) (n : BankName) (x : Bank) :
    (s.setBank n x).le = s.le := rfl

@[simp] theorem State.setBank_st (s : State) (n : BankName) (x : Bank) :
    (s.setBank n x).st = s.st := rfl

@[simp] theorem State.setBank_cu (s : State) (n : BankName) (x : Bank) :
    (s.setBank n x).cu = s.cu.setBank n x := rfl

@[simp] theorem State.setBank_pollRun (s : State) (n : BankName) (x : Bank) :
    (s.setBank n x).pollRun = s.pollRun := rfl

@[simp] theorem State.setBank_ru (s : State) (n : BankName) (x : Bank) :
    (s.setBank n x).ru = s.ru := rfl

@[simp] theorem State.setBank_cq (s : State) (n : BankName) (x : Bank) :
    (s.setBank n x).cq = s.cq := rfl

@[simp] theorem State.setBank_fs (s : State) (n : BankName) (x : Bank) :
    (s.setBank n x).fs = s.fs := rfl

@[simp] theorem State.setBank_tb (s : State) (n : BankName) (x : Bank) :
    (s.setBank n x).tb = s.tb := rfl

@[simp] theorem State.setBank_eu (s : State) (n : BankName) (x : Bank) :
    (s.setBank n x).eu = s.eu := rfl

@[simp] theorem State.setBank_bi (s : State) (n : BankName) (x : Bank) :
    (s.setBank n x).bi = s.bi := rfl

@[simp] theorem State.setBank_pins (s : State) (n : BankName) (x : Bank) :
    (s.setBank n x).pins = s.pins := rfl

@[simp] theorem State.setBank_lineIn (s : State) (n : BankName) (x : Bank) :
    (s.setBank n x).lineIn = s.lineIn := rfl

@[simp] theorem State.setBank_choice (s : State) (n : BankName) (x : Bank) :
    (s.setBank n x).choice = s.choice := rfl

@[simp] theorem State.setBank_pending (s : State) (n : BankName) (x : Bank) :
    (s.setBank n x).pending = s.pending := rfl

/-! ## driverOrdered -/

/-- While the clock runs an order resets the quiet timer, as a sample with the driver enabled does. -/
@[simp] theorem LineInterface.driverOrdered_running (l : LineInterface) :
    l.driverOrdered true = l.goActive := rfl

/-- While the clock stands an order leaves the quiet timer as it is (R192). -/
@[simp] theorem LineInterface.driverOrdered_still (l : LineInterface) :
    l.driverOrdered false = { l with monitor := .active } := rfl

/-! ## openOrder -/

@[simp] theorem State.openOrder_le (s : State) (c : TxChar) :
    (s.openOrder c).le = s.le := rfl

@[simp] theorem State.openOrder_st (s : State) (c : TxChar) :
    (s.openOrder c).st = s.st := rfl

@[simp] theorem State.openOrder_cu (s : State) (c : TxChar) :
    (s.openOrder c).cu = s.cu := rfl

@[simp] theorem State.openOrder_pollRun (s : State) (c : TxChar) :
    (s.openOrder c).pollRun = s.pollRun := rfl

@[simp] theorem State.openOrder_ru (s : State) (c : TxChar) :
    (s.openOrder c).ru = s.ru := rfl

@[simp] theorem State.openOrder_cq (s : State) (c : TxChar) :
    (s.openOrder c).cq = s.cq := rfl

@[simp] theorem State.openOrder_fs (s : State) (c : TxChar) :
    (s.openOrder c).fs = s.fs := rfl

@[simp] theorem State.openOrder_tb (s : State) (c : TxChar) :
    (s.openOrder c).tb = s.tb := rfl

@[simp] theorem State.openOrder_eu (s : State) (c : TxChar) :
    (s.openOrder c).eu = s.eu := rfl

@[simp] theorem State.openOrder_bi (s : State) (c : TxChar) :
    (s.openOrder c).bi = s.bi := rfl

@[simp] theorem State.openOrder_pins (s : State) (c : TxChar) :
    (s.openOrder c).pins = s.pins := rfl

@[simp] theorem State.openOrder_lineIn (s : State) (c : TxChar) :
    (s.openOrder c).lineIn = s.lineIn := rfl

@[simp] theorem State.openOrder_choice (s : State) (c : TxChar) :
    (s.openOrder c).choice = s.choice := rfl

@[simp] theorem State.openOrder_pending (s : State) (c : TxChar) :
    (s.openOrder c).pending = s.pending := rfl

/-! ## enterStopped -/

@[simp] theorem State.enterStopped_li (s : State) :
    (s.enterStopped).li = s.li := rfl

@[simp] theorem State.enterStopped_le (s : State) :
    (s.enterStopped).le = { s.le with state := .stopped, stopMark := false } := rfl

@[simp] theorem State.enterStopped_st (s : State) :
    (s.enterStopped).st = s.st := rfl

@[simp] theorem State.enterStopped_cu (s : State) :
    (s.enterStopped).cu = s.cu := rfl

@[simp] theorem State.enterStopped_pollRun (s : State) :
    (s.enterStopped).pollRun = s.pollRun := rfl

@[simp] theorem State.enterStopped_ru (s : State) :
    (s.enterStopped).ru = s.ru := rfl

@[simp] theorem State.enterStopped_cq (s : State) :
    (s.enterStopped).cq = s.cq := rfl

@[simp] theorem State.enterStopped_fs (s : State) :
    (s.enterStopped).fs = s.fs := rfl

@[simp] theorem State.enterStopped_tb (s : State) :
    (s.enterStopped).tb = s.tb := rfl

@[simp] theorem State.enterStopped_eu (s : State) :
    (s.enterStopped).eu = { s.eu with latches := s.eu.latches ||| Event.lineStopped.bit } := rfl

@[simp] theorem State.enterStopped_bi (s : State) :
    (s.enterStopped).bi = s.bi := rfl

@[simp] theorem State.enterStopped_pins (s : State) :
    (s.enterStopped).pins = s.pins := rfl

@[simp] theorem State.enterStopped_lineIn (s : State) :
    (s.enterStopped).lineIn = s.lineIn := rfl

@[simp] theorem State.enterStopped_choice (s : State) :
    (s.enterStopped).choice = s.choice := rfl

@[simp] theorem State.enterStopped_pending (s : State) :
    (s.enterStopped).pending = s.pending := rfl

/-! ## countHoldoffs -/

@[simp] theorem State.countHoldoffs_li (s : State) :
    (s.countHoldoffs).li = s.li := rfl

@[simp] theorem State.countHoldoffs_st (s : State) :
    (s.countHoldoffs).st = s.st := rfl

@[simp] theorem State.countHoldoffs_cu (s : State) :
    (s.countHoldoffs).cu = s.cu := rfl

@[simp] theorem State.countHoldoffs_pollRun (s : State) :
    (s.countHoldoffs).pollRun = s.pollRun := rfl

@[simp] theorem State.countHoldoffs_ru (s : State) :
    (s.countHoldoffs).ru = s.ru := rfl

@[simp] theorem State.countHoldoffs_cq (s : State) :
    (s.countHoldoffs).cq = s.cq := rfl

@[simp] theorem State.countHoldoffs_fs (s : State) :
    (s.countHoldoffs).fs = s.fs := rfl

@[simp] theorem State.countHoldoffs_tb (s : State) :
    (s.countHoldoffs).tb = s.tb := rfl

@[simp] theorem State.countHoldoffs_eu (s : State) :
    (s.countHoldoffs).eu = s.eu := rfl

@[simp] theorem State.countHoldoffs_bi (s : State) :
    (s.countHoldoffs).bi = s.bi := rfl

@[simp] theorem State.countHoldoffs_pins (s : State) :
    (s.countHoldoffs).pins = s.pins := rfl

@[simp] theorem State.countHoldoffs_lineIn (s : State) :
    (s.countHoldoffs).lineIn = s.lineIn := rfl

@[simp] theorem State.countHoldoffs_choice (s : State) :
    (s.countHoldoffs).choice = s.choice := rfl

@[simp] theorem State.countHoldoffs_pending (s : State) :
    (s.countHoldoffs).pending = s.pending := rfl

/-! ## expireEntry -/

@[simp] theorem State.expireEntry_li (s : State) (i : Fin 4) :
    (s.expireEntry i).li = s.li := rfl

@[simp] theorem State.expireEntry_st (s : State) (i : Fin 4) :
    (s.expireEntry i).st = s.st := rfl

@[simp] theorem State.expireEntry_cu (s : State) (i : Fin 4) :
    (s.expireEntry i).cu = s.cu := rfl

@[simp] theorem State.expireEntry_pollRun (s : State) (i : Fin 4) :
    (s.expireEntry i).pollRun = s.pollRun := rfl

@[simp] theorem State.expireEntry_ru (s : State) (i : Fin 4) :
    (s.expireEntry i).ru = s.ru := rfl

@[simp] theorem State.expireEntry_cq (s : State) (i : Fin 4) :
    (s.expireEntry i).cq = s.cq := rfl

@[simp] theorem State.expireEntry_fs (s : State) (i : Fin 4) :
    (s.expireEntry i).fs = s.fs := rfl

@[simp] theorem State.expireEntry_tb (s : State) (i : Fin 4) :
    (s.expireEntry i).tb = s.tb := rfl

@[simp] theorem State.expireEntry_eu (s : State) (i : Fin 4) :
    (s.expireEntry i).eu = s.eu := rfl

@[simp] theorem State.expireEntry_bi (s : State) (i : Fin 4) :
    (s.expireEntry i).bi = s.bi := rfl

@[simp] theorem State.expireEntry_pins (s : State) (i : Fin 4) :
    (s.expireEntry i).pins = s.pins := rfl

@[simp] theorem State.expireEntry_lineIn (s : State) (i : Fin 4) :
    (s.expireEntry i).lineIn = s.lineIn := rfl

@[simp] theorem State.expireEntry_choice (s : State) (i : Fin 4) :
    (s.expireEntry i).choice = s.choice := rfl

@[simp] theorem State.expireEntry_pending (s : State) (i : Fin 4) :
    (s.expireEntry i).pending = s.pending := rfl

/-! ## latchTick -/

@[simp] theorem State.latchTick_li (s : State) :
    (s.latchTick).li = s.li := by
  unfold State.latchTick; split <;> (try split) <;> rfl

@[simp] theorem State.latchTick_st (s : State) :
    (s.latchTick).st = s.st := by
  unfold State.latchTick; split <;> (try split) <;> rfl

@[simp] theorem State.latchTick_cu (s : State) :
    (s.latchTick).cu = s.cu := by
  unfold State.latchTick; split <;> (try split) <;> rfl

@[simp] theorem State.latchTick_pollRun (s : State) :
    (s.latchTick).pollRun = s.pollRun := by
  unfold State.latchTick; split <;> (try split) <;> rfl

@[simp] theorem State.latchTick_ru (s : State) :
    (s.latchTick).ru = s.ru := by
  unfold State.latchTick; split <;> (try split) <;> rfl

@[simp] theorem State.latchTick_cq (s : State) :
    (s.latchTick).cq = s.cq := by
  unfold State.latchTick; split <;> (try split) <;> rfl

@[simp] theorem State.latchTick_fs (s : State) :
    (s.latchTick).fs = s.fs := by
  unfold State.latchTick; split <;> (try split) <;> rfl

@[simp] theorem State.latchTick_tb (s : State) :
    (s.latchTick).tb = s.tb := by
  unfold State.latchTick; split <;> (try split) <;> rfl

@[simp] theorem State.latchTick_eu (s : State) :
    (s.latchTick).eu = s.eu := by
  unfold State.latchTick; split <;> (try split) <;> rfl

@[simp] theorem State.latchTick_bi (s : State) :
    (s.latchTick).bi = s.bi := by
  unfold State.latchTick; split <;> (try split) <;> rfl

@[simp] theorem State.latchTick_pins (s : State) :
    (s.latchTick).pins = s.pins := by
  unfold State.latchTick; split <;> (try split) <;> rfl

@[simp] theorem State.latchTick_lineIn (s : State) :
    (s.latchTick).lineIn = s.lineIn := by
  unfold State.latchTick; split <;> (try split) <;> rfl

@[simp] theorem State.latchTick_choice (s : State) :
    (s.latchTick).choice = s.choice := by
  unfold State.latchTick; split <;> (try split) <;> rfl

@[simp] theorem State.latchTick_pending (s : State) :
    (s.latchTick).pending = s.pending := by
  unfold State.latchTick; split <;> (try split) <;> rfl

/-! ## startTaken -/

@[simp] theorem State.startTaken_li (s : State) :
    (s.startTaken).li = s.li := by
  unfold State.startTaken; split <;> (try split) <;> rfl

@[simp] theorem State.startTaken_st (s : State) :
    (s.startTaken).st = s.st := by
  unfold State.startTaken; split <;> (try split) <;> rfl

@[simp] theorem State.startTaken_cu (s : State) :
    (s.startTaken).cu = s.cu := by
  unfold State.startTaken; split <;> (try split) <;> rfl

@[simp] theorem State.startTaken_pollRun (s : State) :
    (s.startTaken).pollRun = s.pollRun := by
  unfold State.startTaken; split <;> (try split) <;> rfl

@[simp] theorem State.startTaken_ru (s : State) :
    (s.startTaken).ru = s.ru := by
  unfold State.startTaken; split <;> (try split) <;> rfl

@[simp] theorem State.startTaken_cq (s : State) :
    (s.startTaken).cq = s.cq := by
  unfold State.startTaken; split <;> (try split) <;> rfl

@[simp] theorem State.startTaken_fs (s : State) :
    (s.startTaken).fs = s.fs := by
  unfold State.startTaken; split <;> (try split) <;> rfl

@[simp] theorem State.startTaken_tb (s : State) :
    (s.startTaken).tb = s.tb := by
  unfold State.startTaken; split <;> (try split) <;> rfl

@[simp] theorem State.startTaken_eu (s : State) :
    (s.startTaken).eu = s.eu := by
  unfold State.startTaken; split <;> (try split) <;> rfl

@[simp] theorem State.startTaken_bi (s : State) :
    (s.startTaken).bi = s.bi := by
  unfold State.startTaken; split <;> (try split) <;> rfl

@[simp] theorem State.startTaken_pins (s : State) :
    (s.startTaken).pins = s.pins := by
  unfold State.startTaken; split <;> (try split) <;> rfl

@[simp] theorem State.startTaken_lineIn (s : State) :
    (s.startTaken).lineIn = s.lineIn := by
  unfold State.startTaken; split <;> (try split) <;> rfl

@[simp] theorem State.startTaken_choice (s : State) :
    (s.startTaken).choice = s.choice := by
  unfold State.startTaken; split <;> (try split) <;> rfl

@[simp] theorem State.startTaken_pending (s : State) :
    (s.startTaken).pending = s.pending := by
  unfold State.startTaken; split <;> (try split) <;> rfl

/-! ## openWindow -/

@[simp] theorem State.openWindow_li (s : State) :
    (s.openWindow).li = s.li := by
  unfold State.openWindow; split <;> (try split) <;> rfl

@[simp] theorem State.openWindow_st (s : State) :
    (s.openWindow).st = s.st := by
  unfold State.openWindow; split <;> (try split) <;> rfl

@[simp] theorem State.openWindow_cu (s : State) :
    (s.openWindow).cu = s.cu := by
  unfold State.openWindow; split <;> (try split) <;> rfl

@[simp] theorem State.openWindow_pollRun (s : State) :
    (s.openWindow).pollRun = s.pollRun := by
  unfold State.openWindow; split <;> (try split) <;> rfl

@[simp] theorem State.openWindow_ru (s : State) :
    (s.openWindow).ru = s.ru := by
  unfold State.openWindow; split <;> (try split) <;> rfl

@[simp] theorem State.openWindow_cq (s : State) :
    (s.openWindow).cq = s.cq := by
  unfold State.openWindow; split <;> (try split) <;> rfl

@[simp] theorem State.openWindow_fs (s : State) :
    (s.openWindow).fs = s.fs := by
  unfold State.openWindow; split <;> (try split) <;> rfl

@[simp] theorem State.openWindow_tb (s : State) :
    (s.openWindow).tb = s.tb := by
  unfold State.openWindow; split <;> (try split) <;> rfl

@[simp] theorem State.openWindow_eu (s : State) :
    (s.openWindow).eu = s.eu := by
  unfold State.openWindow; split <;> (try split) <;> rfl

@[simp] theorem State.openWindow_bi (s : State) :
    (s.openWindow).bi = s.bi := by
  unfold State.openWindow; split <;> (try split) <;> rfl

@[simp] theorem State.openWindow_pins (s : State) :
    (s.openWindow).pins = s.pins := by
  unfold State.openWindow; split <;> (try split) <;> rfl

@[simp] theorem State.openWindow_lineIn (s : State) :
    (s.openWindow).lineIn = s.lineIn := by
  unfold State.openWindow; split <;> (try split) <;> rfl

@[simp] theorem State.openWindow_choice (s : State) :
    (s.openWindow).choice = s.choice := by
  unfold State.openWindow; split <;> (try split) <;> rfl

@[simp] theorem State.openWindow_pending (s : State) :
    (s.openWindow).pending = s.pending := by
  unfold State.openWindow; split <;> (try split) <;> rfl

/-! ## enqueue -/

@[simp] theorem State.enqueue_li (s : State) (r : Request) :
    (s.enqueue r).li = s.li := by
  unfold State.enqueue; split <;> rfl

@[simp] theorem State.enqueue_le (s : State) (r : Request) :
    (s.enqueue r).le = s.le := by
  unfold State.enqueue; split <;> rfl

@[simp] theorem State.enqueue_st (s : State) (r : Request) :
    (s.enqueue r).st = s.st := by
  unfold State.enqueue; split <;> rfl

@[simp] theorem State.enqueue_cu (s : State) (r : Request) :
    (s.enqueue r).cu = s.cu := by
  unfold State.enqueue; split <;> rfl

@[simp] theorem State.enqueue_pollRun (s : State) (r : Request) :
    (s.enqueue r).pollRun = s.pollRun := by
  unfold State.enqueue; split <;> rfl

@[simp] theorem State.enqueue_cq (s : State) (r : Request) :
    (s.enqueue r).cq = s.cq := by
  unfold State.enqueue; split <;> rfl

@[simp] theorem State.enqueue_fs (s : State) (r : Request) :
    (s.enqueue r).fs = s.fs := by
  unfold State.enqueue; split <;> rfl

@[simp] theorem State.enqueue_tb (s : State) (r : Request) :
    (s.enqueue r).tb = s.tb := by
  unfold State.enqueue; split <;> rfl

@[simp] theorem State.enqueue_eu (s : State) (r : Request) :
    (s.enqueue r).eu = s.eu := by
  unfold State.enqueue; split <;> rfl

@[simp] theorem State.enqueue_bi (s : State) (r : Request) :
    (s.enqueue r).bi = s.bi := by
  unfold State.enqueue; split <;> rfl

@[simp] theorem State.enqueue_pins (s : State) (r : Request) :
    (s.enqueue r).pins = s.pins := by
  unfold State.enqueue; split <;> rfl

@[simp] theorem State.enqueue_lineIn (s : State) (r : Request) :
    (s.enqueue r).lineIn = s.lineIn := by
  unfold State.enqueue; split <;> rfl

@[simp] theorem State.enqueue_choice (s : State) (r : Request) :
    (s.enqueue r).choice = s.choice := by
  unfold State.enqueue; split <;> rfl

@[simp] theorem State.enqueue_pending (s : State) (r : Request) :
    (s.enqueue r).pending = s.pending := by
  unfold State.enqueue; split <;> rfl

/-! ## raiseIf -/

@[simp] theorem State.raiseIf_li (s : State) (c : Bool) (e : Event) :
    (s.raiseIf c e).li = s.li := by
  unfold State.raiseIf; split <;> rfl

@[simp] theorem State.raiseIf_le (s : State) (c : Bool) (e : Event) :
    (s.raiseIf c e).le = s.le := by
  unfold State.raiseIf; split <;> rfl

@[simp] theorem State.raiseIf_st (s : State) (c : Bool) (e : Event) :
    (s.raiseIf c e).st = s.st := by
  unfold State.raiseIf; split <;> rfl

@[simp] theorem State.raiseIf_cu (s : State) (c : Bool) (e : Event) :
    (s.raiseIf c e).cu = s.cu := by
  unfold State.raiseIf; split <;> rfl

@[simp] theorem State.raiseIf_pollRun (s : State) (c : Bool) (e : Event) :
    (s.raiseIf c e).pollRun = s.pollRun := by
  unfold State.raiseIf; split <;> rfl

@[simp] theorem State.raiseIf_ru (s : State) (c : Bool) (e : Event) :
    (s.raiseIf c e).ru = s.ru := by
  unfold State.raiseIf; split <;> rfl

@[simp] theorem State.raiseIf_cq (s : State) (c : Bool) (e : Event) :
    (s.raiseIf c e).cq = s.cq := by
  unfold State.raiseIf; split <;> rfl

@[simp] theorem State.raiseIf_fs (s : State) (c : Bool) (e : Event) :
    (s.raiseIf c e).fs = s.fs := by
  unfold State.raiseIf; split <;> rfl

@[simp] theorem State.raiseIf_tb (s : State) (c : Bool) (e : Event) :
    (s.raiseIf c e).tb = s.tb := by
  unfold State.raiseIf; split <;> rfl

@[simp] theorem State.raiseIf_bi (s : State) (c : Bool) (e : Event) :
    (s.raiseIf c e).bi = s.bi := by
  unfold State.raiseIf; split <;> rfl

@[simp] theorem State.raiseIf_pins (s : State) (c : Bool) (e : Event) :
    (s.raiseIf c e).pins = s.pins := by
  unfold State.raiseIf; split <;> rfl

@[simp] theorem State.raiseIf_lineIn (s : State) (c : Bool) (e : Event) :
    (s.raiseIf c e).lineIn = s.lineIn := by
  unfold State.raiseIf; split <;> rfl

@[simp] theorem State.raiseIf_choice (s : State) (c : Bool) (e : Event) :
    (s.raiseIf c e).choice = s.choice := by
  unfold State.raiseIf; split <;> rfl

@[simp] theorem State.raiseIf_pending (s : State) (c : Bool) (e : Event) :
    (s.raiseIf c e).pending = s.pending := by
  unfold State.raiseIf; split <;> rfl

/-! ## note -/

@[simp] theorem State.note_li (s : State) (i : Fin 32) (old new : StationState) :
    (s.note i old new).li = s.li := by
  unfold State.note; split <;> rfl

@[simp] theorem State.note_le (s : State) (i : Fin 32) (old new : StationState) :
    (s.note i old new).le = s.le := by
  unfold State.note; split <;> rfl

@[simp] theorem State.note_cu (s : State) (i : Fin 32) (old new : StationState) :
    (s.note i old new).cu = s.cu := by
  unfold State.note; split <;> rfl

@[simp] theorem State.note_pollRun (s : State) (i : Fin 32) (old new : StationState) :
    (s.note i old new).pollRun = s.pollRun := by
  unfold State.note; split <;> rfl

@[simp] theorem State.note_ru (s : State) (i : Fin 32) (old new : StationState) :
    (s.note i old new).ru = s.ru := by
  unfold State.note; split <;> rfl

@[simp] theorem State.note_cq (s : State) (i : Fin 32) (old new : StationState) :
    (s.note i old new).cq = s.cq := by
  unfold State.note; split <;> rfl

@[simp] theorem State.note_fs (s : State) (i : Fin 32) (old new : StationState) :
    (s.note i old new).fs = s.fs := by
  unfold State.note; split <;> rfl

@[simp] theorem State.note_tb (s : State) (i : Fin 32) (old new : StationState) :
    (s.note i old new).tb = s.tb := by
  unfold State.note; split <;> rfl

@[simp] theorem State.note_eu (s : State) (i : Fin 32) (old new : StationState) :
    (s.note i old new).eu = s.eu := by
  unfold State.note; split <;> rfl

@[simp] theorem State.note_bi (s : State) (i : Fin 32) (old new : StationState) :
    (s.note i old new).bi = s.bi := by
  unfold State.note; split <;> rfl

@[simp] theorem State.note_pins (s : State) (i : Fin 32) (old new : StationState) :
    (s.note i old new).pins = s.pins := by
  unfold State.note; split <;> rfl

@[simp] theorem State.note_lineIn (s : State) (i : Fin 32) (old new : StationState) :
    (s.note i old new).lineIn = s.lineIn := by
  unfold State.note; split <;> rfl

@[simp] theorem State.note_choice (s : State) (i : Fin 32) (old new : StationState) :
    (s.note i old new).choice = s.choice := by
  unfold State.note; split <;> rfl

@[simp] theorem State.note_pending (s : State) (i : Fin 32) (old new : StationState) :
    (s.note i old new).pending = s.pending := by
  unfold State.note; split <;> rfl

/-! ## answer -/

@[simp] theorem State.answer_li (s : State) (code : Byte) (r : ResultCode) :
    (s.answer code r).li = s.li := by
  unfold State.answer; simp only []; split <;> rfl

@[simp] theorem State.answer_le (s : State) (code : Byte) (r : ResultCode) :
    (s.answer code r).le = s.le := by
  unfold State.answer; simp only []; split <;> rfl

@[simp] theorem State.answer_st (s : State) (code : Byte) (r : ResultCode) :
    (s.answer code r).st = s.st := by
  unfold State.answer; simp only []; split <;> rfl

@[simp] theorem State.answer_cu (s : State) (code : Byte) (r : ResultCode) :
    (s.answer code r).cu = s.cu := by
  unfold State.answer; simp only []; split <;> rfl

@[simp] theorem State.answer_pollRun (s : State) (code : Byte) (r : ResultCode) :
    (s.answer code r).pollRun = s.pollRun := by
  unfold State.answer; simp only []; split <;> rfl

@[simp] theorem State.answer_ru (s : State) (code : Byte) (r : ResultCode) :
    (s.answer code r).ru = s.ru := by
  unfold State.answer; simp only []; split <;> rfl

@[simp] theorem State.answer_cq (s : State) (code : Byte) (r : ResultCode) :
    (s.answer code r).cq = s.cq := by
  unfold State.answer; simp only []; split <;> rfl

@[simp] theorem State.answer_fs (s : State) (code : Byte) (r : ResultCode) :
    (s.answer code r).fs = s.fs := by
  unfold State.answer; simp only []; split <;> rfl

@[simp] theorem State.answer_tb (s : State) (code : Byte) (r : ResultCode) :
    (s.answer code r).tb = s.tb := by
  unfold State.answer; simp only []; split <;> rfl

@[simp] theorem State.answer_bi (s : State) (code : Byte) (r : ResultCode) :
    (s.answer code r).bi = { s.bi with result := r, answered := code } := by
  unfold State.answer; simp only []; split <;> rfl

@[simp] theorem State.answer_pins (s : State) (code : Byte) (r : ResultCode) :
    (s.answer code r).pins = s.pins := by
  unfold State.answer; simp only []; split <;> rfl

@[simp] theorem State.answer_lineIn (s : State) (code : Byte) (r : ResultCode) :
    (s.answer code r).lineIn = s.lineIn := by
  unfold State.answer; simp only []; split <;> rfl

@[simp] theorem State.answer_choice (s : State) (code : Byte) (r : ResultCode) :
    (s.answer code r).choice = s.choice := by
  unfold State.answer; simp only []; split <;> rfl

@[simp] theorem State.answer_pending (s : State) (code : Byte) (r : ResultCode) :
    (s.answer code r).pending = s.pending := by
  unfold State.answer; simp only []; split <;> rfl

/-! ## choose -/

@[simp] theorem State.choose_li (s : State) :
    (s.choose.2).li = s.li := rfl

@[simp] theorem State.choose_le (s : State) :
    (s.choose.2).le = s.le := rfl

@[simp] theorem State.choose_st (s : State) :
    (s.choose.2).st = s.st := rfl

@[simp] theorem State.choose_cu (s : State) :
    (s.choose.2).cu = s.cu := rfl

@[simp] theorem State.choose_pollRun (s : State) :
    (s.choose.2).pollRun = s.pollRun := rfl

@[simp] theorem State.choose_ru (s : State) :
    (s.choose.2).ru = s.ru := rfl

@[simp] theorem State.choose_cq (s : State) :
    (s.choose.2).cq = s.cq := rfl

@[simp] theorem State.choose_fs (s : State) :
    (s.choose.2).fs = s.fs := rfl

@[simp] theorem State.choose_tb (s : State) :
    (s.choose.2).tb = s.tb := rfl

@[simp] theorem State.choose_eu (s : State) :
    (s.choose.2).eu = s.eu := rfl

@[simp] theorem State.choose_bi (s : State) :
    (s.choose.2).bi = s.bi := rfl

@[simp] theorem State.choose_pins (s : State) :
    (s.choose.2).pins = s.pins := rfl

@[simp] theorem State.choose_lineIn (s : State) :
    (s.choose.2).lineIn = s.lineIn := rfl

@[simp] theorem State.choose_choice (s : State) :
    (s.choose.2).choice = s.choice + 1 := rfl

@[simp] theorem State.choose_pending (s : State) :
    (s.choose.2).pending = s.pending := rfl

/-! ## Conditional updates in the field they change -/

@[simp] theorem State.answer_eu_done (s : State) (code : Byte) :
    (s.answer code .done).eu = s.eu := rfl

theorem State.answer_eu_refused (s : State) (code : Byte) (r : ResultCode) (h : r ≠ .done) :
    (s.answer code r).eu = { s.eu with latches := s.eu.latches ||| Event.commandError.bit } := by
  simp [State.answer, h, State.raise]

@[simp] theorem State.raiseIf_true (s : State) (e : Event) : s.raiseIf true e = s.raise e := rfl

@[simp] theorem State.raiseIf_false (s : State) (e : Event) : s.raiseIf false e = s := rfl

@[simp] theorem State.note_same (s : State) (i : Fin 32) (x : StationState) : s.note i x x = s := by
  simp [State.note]

/-! ## Reading one entry -/

/-- Reading a vector that was written at one place. -/
theorem vector_get_set {α : Type} {n : Nat} (v : Vector α n) (i j : Fin n) (x : α) :
    (v.set i x).get j = if j = i then x else v.get j := by
  show (v.set i x)[j.val] = _
  rw [Vector.getElem_set]
  by_cases h : j = i
  · simp [h]
  · have : (i : Nat) ≠ j := fun e => h (Fin.ext e.symm)
    simp [h, this]; rfl

/-- Reading a vector made from a function. -/
@[simp] theorem vector_get_ofFn {α : Type} {n : Nat} (f : Fin n → α) (i : Fin n) :
    (Vector.ofFn f).get i = f i := by
  show (Vector.ofFn f)[i.val] = _
  simp

theorem State.station_setStation (s : State) (i j : Fin 32) (e : Station) :
    (s.setStation i e).station j = if j = i then e else s.station j :=
  vector_get_set _ _ _ _

@[simp] theorem State.station_setStation_same (s : State) (i : Fin 32) (e : Station) :
    (s.setStation i e).station i = e := by simp [State.station_setStation]

theorem State.station_mapStations (s : State) (f : Station → Station) (i : Fin 32) :
    (s.mapStations f).station i = f (s.station i) := by
  unfold State.station State.mapStations; exact vector_get_ofFn _ _

theorem State.snapshot_setSnapshot (s : State) (i j : Fin 32) (x : Snapshot) :
    (s.setSnapshot i x).snapshot j = if j = i then x else s.snapshot j :=
  vector_get_set _ _ _ _

@[simp] theorem State.snapshot_setSnapshot_same (s : State) (i : Fin 32) (x : Snapshot) :
    (s.setSnapshot i x).snapshot i = x := by simp [State.snapshot_setSnapshot]

/-- A notice or its absence leaves every station entry. -/
@[simp] theorem State.station_note (s : State) (i j : Fin 32) (old new : StationState) :
    (s.note i old new).station j = s.station j := by
  unfold State.note; split <;> rfl

end Sys2Proof.Machine
end

