-- ==== Sys2Proof/Laws/Memory.lean ====
section
/-! SUPPORT. The bytes of the frame store: reading what was written, and that every store keeps the
canonical form. -/

namespace Sys2Proof.Machine

theorem Memory.rising_cons (c : Host.Cell) (m : Memory) :
    Memory.rising (c :: m) = true ↔ (∀ d ∈ m, c.1 < d.1) ∧ Memory.rising m = true := by
  induction m generalizing c with
  | nil => simp [Memory.rising]
  | cons d m ih =>
    simp only [Memory.rising, Bool.and_eq_true, decide_eq_true_eq, List.mem_cons, forall_eq_or_imp]
    constructor
    · rintro ⟨h, r⟩
      exact ⟨⟨h, fun e he => lt_trans h (((ih d).1 r).1 e he)⟩, r⟩
    · rintro ⟨⟨h, -⟩, r⟩
      exact ⟨h, r⟩

theorem Memory.wf_cons (c : Host.Cell) (m : Memory) :
    Memory.wf (c :: m) = true ↔
      (∀ d ∈ m, c.1 < d.1) ∧ c.1 < 4096 ∧ c.2 ≠ Config.blankByte ∧ Memory.wf m = true := by
  simp only [Memory.wf, Bool.and_eq_true, Memory.rising_cons, List.all_cons, decide_eq_true_eq,
    Config.blockCount, Config.blockBytes, show (128 * 32 = 4096) from rfl]
  tauto

/-- The cells after a write are the old ones and perhaps the one written. -/
theorem Memory.mem_write (a : Nat) (v : Byte) (m : Memory) (d : Host.Cell)
    (h : d ∈ Memory.write a v m) : d = (a, v) ∨ d ∈ m := by
  induction m with
  | nil => simp only [Memory.write] at h; split at h <;> simp_all
  | cons c m ih =>
    simp only [Memory.write] at h
    split at h
    · split at h <;> simp_all
    · split at h
      · split at h <;> simp_all; tauto
      · simp only [List.mem_cons] at h ⊢
        rcases h with h | h
        · exact .inr (.inl h)
        · rcases ih h with h | h
          · exact .inl h
          · exact .inr (.inr h)

/-- A write inside the store keeps the canonical form. -/
theorem Memory.write_wf (a : Nat) (v : Byte) (m : Memory) (ha : a < 4096)
    (h : Memory.wf m = true) : Memory.wf (Memory.write a v m) = true := by
  induction m with
  | nil =>
    simp only [Memory.write]
    split
    · rfl
    · rename_i hv
      rw [Memory.wf_cons]
      exact ⟨by simp, ha, hv, rfl⟩
  | cons c m ih =>
    have hc := (Memory.wf_cons c m).1 h
    simp only [Memory.write]
    split
    · rename_i hlt
      split
      · exact h
      · rename_i hv
        rw [Memory.wf_cons]
        refine ⟨fun d hd => ?_, ha, hv, h⟩
        rcases List.mem_cons.1 hd with rfl | hd
        · exact hlt
        · exact lt_trans hlt (hc.1 d hd)
    · split
      · rename_i heq
        split
        · exact hc.2.2.2
        · rename_i hv
          rw [Memory.wf_cons]
          exact ⟨fun d hd => heq ▸ hc.1 d hd, ha, hv, hc.2.2.2⟩
      · rename_i hlt hne
        rw [Memory.wf_cons]
        refine ⟨fun d hd => ?_, hc.2.1, hc.2.2.1, ih hc.2.2.2⟩
        rcases Memory.mem_write a v m d hd with rfl | hd
        · exact lt_of_le_of_ne (not_lt.1 hlt) (fun e => hne e.symm)
        · exact hc.1 d hd

/-- An address below every listed one reads as blank. -/
theorem Memory.read_below (a : Nat) (m : Memory) (h : ∀ d ∈ m, a < d.1) :
    Memory.read a m = Config.blankByte := by
  induction m with
  | nil => rfl
  | cons c m ih =>
    have hc : c.1 ≠ a := (h c (by simp)).ne'
    simp only [Memory.read, hc, if_false]
    exact ih fun d hd => h d (List.mem_cons_of_mem _ hd)

/-- Reading after a write: the byte written there, what was there before elsewhere. -/
theorem Memory.read_write (a b : Nat) (v : Byte) (m : Memory) (h : Memory.wf m = true) :
    Memory.read b (Memory.write a v m) = if b = a then v else Memory.read b m := by
  induction m with
  | nil =>
    simp only [Memory.write]
    split <;> rename_i hv
    · by_cases hb : b = a <;> simp [Memory.read, hb, hv]
    · by_cases hb : b = a
      · subst hb; simp [Memory.read]
      · have : ¬ a = b := fun e => hb e.symm
        simp [Memory.read, hb, this]
  | cons c m ih =>
    have hc := (Memory.wf_cons c m).1 h
    simp only [Memory.write]
    split
    · rename_i hlt
      have below : Memory.read a (c :: m) = Config.blankByte := by
        refine Memory.read_below a _ fun d hd => ?_
        rcases List.mem_cons.1 hd with rfl | hd
        · exact hlt
        · exact lt_trans hlt (hc.1 d hd)
      split
      · rename_i hv
        by_cases hb : b = a
        · subst hb; simp [below, hv]
        · simp [hb]
      · by_cases hb : b = a
        · subst hb; simp [Memory.read]
        · have : ¬ a = b := fun e => hb e.symm
          simp [Memory.read, hb, this]
    · split
      · rename_i heq
        have below : Memory.read a m = Config.blankByte :=
          Memory.read_below a _ fun d hd => heq ▸ hc.1 d hd
        split
        · rename_i hv
          by_cases hb : b = a
          · subst hb; simp [below, hv]
          · have : ¬ c.1 = b := fun e => hb (e.symm.trans heq.symm)
            simp [Memory.read, hb, this]
        · by_cases hb : b = a
          · subst hb; simp [Memory.read]
          · have h1 : ¬ c.1 = b := fun e => hb (e.symm.trans heq.symm)
            have h2 : ¬ a = b := fun e => hb e.symm
            simp [Memory.read, hb, h1, h2]
      · rename_i hlt hne
        simp only [Memory.read]
        by_cases hcb : c.1 = b
        · have : ¬ b = a := fun e => hne (e ▸ hcb.symm)
          simp [hcb, this]
        · simp only [hcb, if_false]
          exact ih hc.2.2.2

/-- Every byte of a chain lies in the store. -/
theorem chainAddress_lt (c : Chain) (k a : Nat) (h : chainAddress c k = some a) : a < 4096 := by
  simp only [chainAddress, Config.blockBytes, Option.map_eq_some_iff] at h
  obtain ⟨b, -, rfl⟩ := h
  have := b.isLt
  omega

theorem Memory.storeAt_wf (m : Memory) (c : Chain) (k : Nat) (v : Byte) (h : m.wf = true) :
    (m.storeAt c k v).wf = true := by
  unfold Memory.storeAt
  split
  · rename_i a ha
    exact Memory.write_wf a v m (chainAddress_lt c k a ha) h
  · exact h

/-- Copying a payload into its chain keeps the canonical form. -/
theorem Memory.storeFrom_wf (c : Chain) (vs : List Byte) (k : Nat) (m : Memory)
    (h : m.wf = true) : (Memory.storeFrom c k vs m).wf = true := by
  induction vs generalizing k m with
  | nil => exact h
  | cons v vs ih => exact ih (k + 1) _ (Memory.storeAt_wf m c k v h)

/-- Storing a byte of a chain leaves every byte at another address. -/
theorem Memory.read_storeAt (m : Memory) (c : Chain) (k b : Nat) (v : Byte) (h : m.wf = true) :
    (m.storeAt c k v).read b = if chainAddress c k = some b then v else m.read b := by
  unfold Memory.storeAt
  split
  · rename_i a ha
    rw [Memory.read_write a b v m h, ha]
    by_cases hb : b = a
    · simp [hb]
    · have : ¬ a = b := fun e => hb e.symm
      simp [hb, this]
  · rename_i ha
    simp [ha]

end Sys2Proof.Machine
end

