-- ==== Sys2Proof/Laws/Ops.lean ====
section
/-! SUPPORT. One lemma per shared operation that says what it can do: the accesses, the allocation, the
receiver's edges, the start of an attempt, and induction principles for the cycle, the arbiter and the end of an attempt. -/

namespace Sys2Proof.Machine

/-! ## Accesses and events -/

theorem hostWrite_taken (f : State → State) (s : State) (h : s.Taken) : hostWrite f s = f s := by
  simp [hostWrite, h.1, h.2]

theorem hostCommand_taken (code : Byte) (op : CommandOp) (s : State) (h : s.Taken) :
    hostCommand code op s = (op s).1.answer code (op s).2 := hostWrite_taken _ s h

theorem hostRead_taken (f : State → Word × State) (s : State) (h : s.Taken) :
    hostRead f s = { (f s).2 with pins := { (f s).2.pins with dataBus := some (f s).1 } } := by
  simp [hostRead, h.1, h.2]

/-- While RESET is asserted a write is lost (R190). -/
theorem hostWrite_reset (f : State → State) (s : State) (h : s.pins.resetPin = true) :
    hostWrite f s = s := by simp [hostWrite, h]

/-- A write whose strobe was asserted when RESET was released is lost, and ends that access (R194). -/
theorem hostWrite_held (f : State → State) (s : State) (h : s.pins.resetPin = false)
    (hh : s.pins.strobeHeld = true) :
    hostWrite f s = { s with pins := { s.pins with strobeHeld := false } } := by
  simp [hostWrite, h, hh]

theorem timed_runs (f : State → State) (s : State) (h : s.timeRuns = true) : timed f s = f s := by
  simp [timed, h]

theorem timed_still (f : State → State) (s : State) (h : s.timeRuns = false) : timed f s = s := by
  simp [timed, h]

theorem stationCommand_index (op : Fin 32 → CommandOp) (i : Fin 32) (s : State) :
    stationCommand op (BitVec.ofNat 8 i.val) s = op i s := by
  have h : (BitVec.ofNat 8 i.val).toNat = i.val := by simp; omega
  simp [stationCommand, stationOperand, h, i.isLt]

theorem stationCommand_bad (op : Fin 32 → CommandOp) (operand : Byte) (s : State)
    (h : 32 ≤ operand.toNat) : stationCommand op operand s = (s, .badOperand) := by
  simp [stationCommand, stationOperand, Nat.not_lt.2 h]

/-! ## The free list -/

/-- A claim that can be met takes its blocks from the front, in order (R145). -/
theorem allocate_met (s : State) (n : Nat) (h : n ≤ s.freeCount) :
    s.allocate n =
      some (s.fs.free.take n, { s with fs := { s.fs with free := s.fs.free.drop n } }) := by
  simp [State.allocate, h]

/-- A claim that cannot be met takes none (R145). -/
theorem allocate_refused (s : State) (n : Nat) (h : s.freeCount < n) : s.allocate n = none := by
  simp [State.allocate, Nat.not_le.2 h]

/-- All an allocation can do. -/
theorem allocate_some (s t : State) (n : Nat) (c : Chain) (h : s.allocate n = some (c, t)) :
    n ≤ s.freeCount ∧ c = s.fs.free.take n ∧
      t = { s with fs := { s.fs with free := s.fs.free.drop n } } := by
  unfold State.allocate at h
  split at h
  · rename_i hn
    simp only [Option.some.injEq, Prod.mk.injEq] at h
    exact ⟨hn, h.1.symm, h.2.symm⟩
  · cases h

/-! ## Forming the offer and arbitrating -/

/-- A position that qualifies is kept. -/
theorem skipTo_here (q : Nat → Bool) (k p : Nat) (h : q p = true) : skipTo q k p = p := by
  cases k <;> simp [skipTo, h]

/-- The first position that qualifies, or the one after the last: nothing between is skipped that
qualifies. -/
theorem skipTo_spec (q : Nat → Bool) (k p : Nat) :
    p ≤ skipTo q k p ∧ skipTo q k p ≤ p + k ∧
      (∀ j, p ≤ j → j < skipTo q k p → q j = false) ∧
      (skipTo q k p < p + k → q (skipTo q k p) = true) := by
  induction k generalizing p with
  | zero => simp [skipTo]; omega
  | succ k ih =>
    unfold skipTo
    split
    · rename_i h
      exact ⟨Nat.le_refl _, by omega, fun j h1 h2 => absurd h2 (by omega), fun _ => h⟩
    · rename_i h
      obtain ⟨h1, h2, h3, h4⟩ := ih (p + 1)
      refine ⟨by omega, by omega, fun j hj hlt => ?_, fun hlt => h4 (by omega)⟩
      rcases Nat.eq_or_lt_of_le hj with rfl | hj
      · simpa using h
      · exact h3 j hj hlt

/-- Forming an offer moves the pointer or the position, enters PROBE_PHASE, or ends the cycle: what
holds before and survives each of these holds after. -/
theorem formOffer_induct (P : State → Prop)
    (hpointer : ∀ s p, P s → P { s with cu := { s.cu with pointer := p } })
    (hprobe : ∀ s p, P s → P { s with cu := { s.cu with pointer := p, state := .probePhase } })
    (hpos : ∀ s p, P s → P { s with cu := { s.cu with probePos := p } })
    (hend : ∀ s, P s → P s.cycleEnd) (s : State) (h : P s) : P s.formOffer := by
  have key : ∀ k s, P s → P (s.formOfferIn k) := by
    intro k
    induction k with
    | zero => intro s h; exact h
    | succ k ih =>
      intro s h
      unfold State.formOfferIn
      split
      · exact h
      · exact h
      · simp only []
        split
        · exact hpointer _ _ h
        · exact ih _ (hprobe _ _ h)
      · simp only []
        split
        · exact hpos _ _ h
        · exact ih _ (hend _ (hpos _ _ h))
  exact key _ s h

/-- Arbitrating ends candidates at their check and dispatches at most one: what survives each of these
holds after. -/
theorem arbitrate_induct (P : State → Prop)
    (hcheck : ∀ s c t, P s → s.candidate = some c → c.turnedAway s = some t → P t)
    (hdispatch : ∀ s c n, P s → s.arbiterActs = true → s.candidate = some c →
      c.turnedAway s = none → n = c.need s → n ≤ s.freeCount →
      P (dispatch c (s.fs.free.take n) { s with fs := { s.fs with free := s.fs.free.drop n } }))
    (k : Nat) (s : State) (h : P s) : P (s.arbitrate k) := by
  induction k generalizing s with
  | zero => exact h
  | succ k ih =>
    unfold State.arbitrate
    split
    · rename_i ha
      split
      · exact h
      · rename_i c hc
        split
        · rename_i t ht
          exact ih _ (hcheck s c t h hc ht)
        · rename_i ht
          split
          · rename_i chain t hal
            obtain ⟨hn, rfl, rfl⟩ := allocate_some _ _ _ _ hal
            exact hdispatch s c _ h ha hc ht rfl hn
          · exact h
    · exact h

/-- An arbiter that does not act leaves everything as it is (R109). -/
theorem arbitrate_idle (k : Nat) (s : State) (h : s.arbiterActs = false) : s.arbitrate k = s := by
  cases k <;> simp [State.arbitrate, h]

/-! ## The receiver -/

/-- A sample in HUNTING is a candidate start edge exactly where it is low after a high one (R3). -/
theorem edgeAt_eq_some (before level : Bool) (x : Nat × Shift) :
    edgeAt before level = some x ↔ before = true ∧ level = false ∧ x = (0, Shift.fresh) := by
  cases before <;> cases level <;> simp [edgeAt, eq_comm]

/-! ## The start of an attempt -/

/-- The first start bit begins at once where the turnaround has elapsed and the clock runs; else
nothing happens (R8, R192). -/
theorem startIfElapsed_cases (s : State) :
    (s.startIfElapsed = s) ∨
    (∃ c, s.li.tx = .turnaround 0 ∧ s.li.supplied = some c ∧ s.pins.clock = true ∧
      s.startIfElapsed = firstStart c s) := by
  unfold State.startIfElapsed
  split
  · rename_i c h1 h2
    cases h : s.pins.clock with
    | true => exact .inr ⟨c, h1, h2, rfl, rfl⟩
    | false => exact .inl rfl
  · exact .inl rfl

/-- The first start bit changes the Line Interface and the Line Engine alone, and of the engine its
state and the latched tick. -/
theorem firstStart_frame (c : TxChar) (s : State) :
    ∃ (e : EngineState) (v : Stamp),
      firstStart c s =
        { s with
          li := s.li.beginChar c
          le := { s.le with state := e, attempt := { s.le.attempt with latched := v } } } := by
  unfold firstStart
  dsimp only
  split
  · unfold State.latchTick
    split
    · split
      · exact ⟨.sending, s.tb.counter, rfl⟩
      · exact ⟨.sending, s.le.attempt.latched, rfl⟩
    · exact ⟨.sending, s.le.attempt.latched, rfl⟩
  · exact ⟨s.le.state, s.le.attempt.latched, rfl⟩

/-- The start of an attempt changes the Line Interface and the Line Engine alone, and leaves the
engine its deferred list, its stop mark and its parameters. -/
theorem startAttempt_frame (x : Transaction) (s : State) :
    ∃ (l : LineInterface) (e : EngineState) (a : Attempt),
      startAttempt x s =
        { s with li := l, le := { s.le with state := e, current := some x, attempt := a } } := by
  unfold startAttempt
  dsimp only
  rcases startIfElapsed_cases _ with h | ⟨c, _, _, _, h⟩
  · exact ⟨_, _, _, h⟩
  · obtain ⟨e, v, hf⟩ := firstStart_frame c _
    exact ⟨_, _, _, h.trans hf⟩

/-! ## The end of an attempt -/

/-- The end of an attempt ends the transaction, holds it, starts its next attempt or defers it: what
survives each of these holds after. -/
theorem attemptEnds_induct (P : State → Prop) (s : State)
    (hfail : ∀ (t : Transaction) (f : Option Failure), P s → P (retryDecision { t with lastFailure := f } s))
    (hbusy : ∀ t, P s → P (busyDecision t s))
    (hend : ∀ t r, P s → P (endTransaction t r s))
    (t : Transaction) (r : Result) (h : P s) : P (attemptEnds t r s) := by
  cases r with
  | reply k len e b =>
    cases k
    · exact hend t _ h
    · exact hend t _ h
    · exact hend t _ h
    · exact hbusy t h
    · exact hend t _ h
  | overlength k => exact hend t _ h
  | noReply => exact hfail t _ h
  | corrupt c => exact hfail t _ h
  | wrongStation => exact hfail t _ h
  | collision => exact hfail t t.lastFailure h
  | sent => exact hend t _ h

/-- The retry decision, case by case (R49, R50). -/
theorem retryDecision_cases (t : Transaction) (s : State) :
    (retryDecision t s = endTransaction t t.roundResult s) ∨
    (t.cancel = false ∧ t.attempts.toNat < 1 + t.retryLimit.toNat ∧
      retryDecision t s = enterHolding t s) := by
  unfold retryDecision
  split
  · rename_i h
    simp only [Bool.and_eq_true, Bool.not_eq_true', decide_eq_true_eq] at h
    exact .inr ⟨h.1, h.2, rfl⟩
  · exact .inl rfl

/-- The engine that holds no transaction any more is IDLE, or STOPPED when the stop mark was set. -/
theorem engineFree_cases (s : State) :
    (s.le.stopMark = true ∧ s.engineFree.le.state = .stopped ∧ s.engineFree.le.current = none) ∨
    (s.le.stopMark = false ∧ s.engineFree.le.state = .idle ∧ s.engineFree.le.current = none) := by
  unfold State.engineFree
  cases h : s.le.stopMark <;> simp [h, State.enterStopped, State.raise]

end Sys2Proof.Machine
end

