-- ==== Sys2Proof/Laws/PerInstr.lean ====
section
/-! SUPPORT. Statements made per instruction: what well-formedness says of each row's operands. -/

namespace Sys2Proof.Laws.Operands

/-- What a row's operands must be, as propositions: a code outside the command table (R179), an offset
whose writes are ignored (R177), a flush operand that names no selection (R181); anything else for
the other rows. -/
def Fits : Instr → Prop
  | .unknownCommand code _ => code ∉ commandCodes
  | .registerWriteIgnored offset _ => offset ∈ ignoredOffsets
  | .rqFlushBadOperand operand => operand ∉ flushOperands
  | _ => True

/-- Well-formedness is decided by the check of the row, and says what the row says. -/
def Statement (i : Instr) : Prop := i.wf = true ↔ Fits i

theorem lineStart : Statement .lineStart := iff_of_true rfl trivial

theorem lineStop : Statement .lineStop := iff_of_true rfl trivial

theorem lineHalt : Statement .lineHalt := iff_of_true rfl trivial

theorem lineBreak : Statement .lineBreak := iff_of_true rfl trivial

theorem schedRun : Statement .schedRun := iff_of_true rfl trivial

theorem schedHalt : Statement .schedHalt := iff_of_true rfl trivial

theorem schedSwap : Statement .schedSwap := iff_of_true rfl trivial

theorem stnEnable (operand : Byte) : Statement (.stnEnable operand) :=
  iff_of_true rfl trivial

theorem stnDisable (operand : Byte) : Statement (.stnDisable operand) :=
  iff_of_true rfl trivial

theorem chgPop : Statement .chgPop := iff_of_true rfl trivial

theorem rqClear : Statement .rqClear := iff_of_true rfl trivial

theorem rqSubmit : Statement .rqSubmit := iff_of_true rfl trivial

theorem rqCancel : Statement .rqCancel := iff_of_true rfl trivial

theorem rqFlushUrgent : Statement .rqFlushUrgent := iff_of_true rfl trivial

theorem rqFlushNormal : Statement .rqFlushNormal := iff_of_true rfl trivial

theorem rqFlushAll : Statement .rqFlushAll := iff_of_true rfl trivial

theorem cpOpen : Statement .cpOpen := iff_of_true rfl trivial

theorem cpRetire : Statement .cpRetire := iff_of_true rfl trivial

theorem snapPin (operand : Byte) : Statement (.snapPin operand) :=
  iff_of_true rfl trivial

theorem snapUnpin (operand : Byte) : Statement (.snapUnpin operand) :=
  iff_of_true rfl trivial

theorem snapOpen (operand : Byte) : Statement (.snapOpen operand) :=
  iff_of_true rfl trivial

theorem tabReadStation : Statement .tabReadStation := iff_of_true rfl trivial

theorem tabReadSchedule : Statement .tabReadSchedule := iff_of_true rfl trivial

theorem tabReadLineParameters : Statement .tabReadLineParameters :=
  iff_of_true rfl trivial

theorem tabReadSnapshot : Statement .tabReadSnapshot := iff_of_true rfl trivial

theorem tabReadRoute : Statement .tabReadRoute := iff_of_true rfl trivial

theorem tabReadChangeQueueHead : Statement .tabReadChangeQueueHead :=
  iff_of_true rfl trivial

theorem tabReadNoEntry : Statement .tabReadNoEntry := iff_of_true rfl trivial

theorem tabWriteStation : Statement .tabWriteStation := iff_of_true rfl trivial

theorem tabWriteSchedule : Statement .tabWriteSchedule := iff_of_true rfl trivial

theorem tabWriteLineParameters : Statement .tabWriteLineParameters :=
  iff_of_true rfl trivial

theorem tabWriteSnapshot : Statement .tabWriteSnapshot := iff_of_true rfl trivial

theorem tabWriteRoute : Statement .tabWriteRoute := iff_of_true rfl trivial

theorem tabWriteChangeQueueHead : Statement .tabWriteChangeQueueHead :=
  iff_of_true rfl trivial

theorem tabWriteNoEntry : Statement .tabWriteNoEntry := iff_of_true rfl trivial

theorem tbClear : Statement .tbClear := iff_of_true rfl trivial

theorem softReset : Statement .softReset := iff_of_true rfl trivial

theorem unknownCommand (code operand : Byte) : Statement (.unknownCommand code operand) := by
  simp [Statement, Instr.wf, Fits]

theorem dportWrite (value : Word) : Statement (.dportWrite value) :=
  iff_of_true rfl trivial

theorem dportRead : Statement .dportRead := iff_of_true rfl trivial

theorem tbLoRead : Statement .tbLoRead := iff_of_true rfl trivial

theorem evLatchWrite (value : Word) : Statement (.evLatchWrite value) :=
  iff_of_true rfl trivial

theorem evEnableWrite (value : Word) : Statement (.evEnableWrite value) :=
  iff_of_true rfl trivial

theorem rqSelWrite (value : Word) : Statement (.rqSelWrite value) :=
  iff_of_true rfl trivial

theorem rqTagWrite (value : Word) : Statement (.rqTagWrite value) :=
  iff_of_true rfl trivial

theorem rqOvrWrite (value : Word) : Statement (.rqOvrWrite value) :=
  iff_of_true rfl trivial

theorem tabSelWrite (value : Word) : Statement (.tabSelWrite value) :=
  iff_of_true rfl trivial

theorem tabWWrite (n : Fin 4) (value : Word) : Statement (.tabWWrite n value) :=
  iff_of_true rfl trivial

theorem registerWriteIgnored (offset : Fin 32) (value : Word) : Statement (.registerWriteIgnored offset value) := by
  simp [Statement, Instr.wf, Fits]

theorem hardReset (powerOn : Bool) : Statement (.hardReset powerOn) :=
  iff_of_true rfl trivial

theorem resetRelease (strobeHeld : Bool) : Statement (.resetRelease strobeHeld) :=
  iff_of_true rfl trivial

theorem clockStop : Statement .clockStop := iff_of_true rfl trivial

theorem clockResume : Statement .clockResume := iff_of_true rfl trivial

theorem tick : Statement .tick := iff_of_true rfl trivial

theorem holdoffExpiry (place : Fin 4) : Statement (.holdoffExpiry place) :=
  iff_of_true rfl trivial

theorem periodExpiry : Statement .periodExpiry := iff_of_true rfl trivial

theorem nextTickCycleStart : Statement .nextTickCycleStart := iff_of_true rfl trivial

theorem quietReport : Statement .quietReport := iff_of_true rfl trivial

theorem activeReport : Statement .activeReport := iff_of_true rfl trivial

theorem replyWindowExpiry : Statement .replyWindowExpiry := iff_of_true rfl trivial

theorem gapExpiry : Statement .gapExpiry := iff_of_true rfl trivial

theorem startReport (noise : Bool) : Statement (.startReport noise) :=
  iff_of_true rfl trivial

theorem characterReport (data : Byte) (mark noise framing : Bool) : Statement (.characterReport data mark noise framing) :=
  iff_of_true rfl trivial

theorem breakReport : Statement .breakReport := iff_of_true rfl trivial

theorem firstStartReport : Statement .firstStartReport := iff_of_true rfl trivial

theorem echoReport (data : Byte) (mark noise framing : Bool) : Statement (.echoReport data mark noise framing) :=
  iff_of_true rfl trivial

theorem releasedReport : Statement .releasedReport := iff_of_true rfl trivial

theorem breakLowEnd : Statement .breakLowEnd := iff_of_true rfl trivial

theorem breakDoneReport : Statement .breakDoneReport := iff_of_true rfl trivial

theorem heldLowEnd : Statement .heldLowEnd := iff_of_true rfl trivial

theorem rqFlushBadOperand (operand : Byte) : Statement (.rqFlushBadOperand operand) := by
  simp [Statement, Instr.wf, Fits]

end Sys2Proof.Laws.Operands
end

