-- ==== Sys2Proof/Tests/Slice0.lean ====
section
/-! SUPPORT. The model's own tests: what the well-formedness check refuses, a few single steps on small
states, and for every statement a state and operands that meet its hypotheses. -/

namespace Sys2Proof.Tests

open Sys2Proof.Machine

-- One theorem after the other: many at once ask for more threads than the memory limit allows.
set_option Elab.async false

/-! ## Small states -/

/-- The state that a command leads to. -/
def after (c : Instr) (s : State) : State :=
  match exec c s with
  | .next t => t
  | .fault _ => s
  | .refused _ => s

/-- A transaction with one block of reservation and one retry. -/
def txn (origin : Origin) (kind : CommandKind) (target : Option (Fin 32)) : Transaction :=
  { origin := origin, target := target, kind := kind, payload := [], length := 0, selector := 0x5A,
    blocksOverride := none, reservation := [0], retryLimit := 1, attempts := 1, busyCount := 0,
    lastFailure := none, cancel := false }

/-- A READ request to station 0, tag 7. -/
def readTxn : Transaction := txn (.request 7) .read (some 0)

/-- Reset, but for the engine's state and transaction. -/
def engine (e : EngineState) (x : Option Transaction) : State :=
  { State.reset with le := { LineEngine.reset with state := e, current := x } }

/-- A configured station. -/
def station (st : StationState) : Station :=
  { Station.reset with
    state := st, address := 7, failLimit := 2, replyBlocks := 1, probeInterval := 3, busyLimit := 1,
    retryLimit := 1 }

/-- A state with station 0 configured. -/
def withStation (st : StationState) (s : State) : State := s.setStation 0 (station st)

/-- A state with this transmitter and receiver. -/
def onLine (tx : Tx) (supplied : Option TxChar) (rx : Rx) (s : State) : State :=
  { s with li := { s.li with tx := tx, supplied := supplied, rx := rx } }

/-- A state with this attempt. -/
def attempting (a : Attempt) (s : State) : State := { s with le := { s.le with attempt := a } }

/-- A queued READ of station 0 with this tag. -/
def request (tag : Word) : Request :=
  { kind := .read, station := some 0, tag := tag, retry := none, blocks := none, payload := [],
    length := 0 }

/-- A record with a reply of this length in block 5. -/
def record (chain : Chain) (n : BitVec 7) : Record :=
  { tag := 7, kind := .read, station := some 0, outcome := .ok, attempts := 1, busyCount := 0,
    cause := none, replyKind := some .data, replyLength := some n, chain := chain,
    nakReason := none, cancel := false, stamp := 0 }

/-- A state with these records in the ring. -/
def withRing (ring : List Record) (s : State) : State := { s with cq := { s.cq with ring := ring } }

/-- A state with this cursor. -/
def withCursor (c : Cursor) (s : State) : State := s.setCursor c

/-- A reply of length 1 in block 9. -/
def installed : Installed := { chain := [9], length := 1, kind := .data, stamp := 0 }

/-- A state with this snapshot record of station 0. -/
def withSnapshot (pinned : Bool) (current next : Option Installed) (s : State) : State :=
  s.setSnapshot 0 { current := current, next := next, generation := 0, pinned := pinned }

/-- A state with TAB_SEL and the first words of the image. -/
def selecting (select : BitVec 3) (index : Byte) (words : List Word) (s : State) : State :=
  { s with
    bi := { s.bi with tabSelect := select, tabIndex := index, image := imageOf words } }

/-- A deferred request with tag 7. -/
def deferred (holdoff : BitVec 8) : Deferred :=
  { id := 0, txn := { readTxn with reservation := [], busyCount := 1 }, holdoff := holdoff }

/-- A state with one deferred entry. -/
def withDeferred (holdoff : BitVec 8) (expired : List (Fin 4)) (s : State) : State :=
  { s with le := { s.le with deferred := [deferred holdoff], expired := expired } }

/-- A state that stages a request of a kind for station 0, tag 7. -/
def staging (kind : BitVec 4) (payload : List Byte) (s : State) : State :=
  { s with
    ru := { s.ru with staging := { Staging.cleared with kind := kind, tag := 7, payload := payload } } }

/-- A quiet line on which the arbiter acts. -/
def quiet (s : State) : State :=
  { s with li := { s.li with monitor := .quiet }, le := { s.le with state := .idle } }

/-- A cycle that walks a bank of one slot. -/
def walking (enabled : Bool) (s : State) : State :=
  { s with
    cu := { s.cu with
      state := .walking
      bankA :=
        { slots := Vector.replicate 64 { station := 0, kind := .poll, selector := 0, enabled := enabled }
          length := 1 } } }

/-- A state whose line parameters give no turnaround. -/
def noTurnaround (s : State) : State :=
  { s with le := { s.le with params := { s.le.params with turnaround := 0 } } }

/-- A state with this much left of the sample period. -/
def sampling (left : Nat) (s : State) : State := { s with li := { s.li with sampleLeft := left } }

/-! ## Well-formedness and decoding -/

theorem test_wf_unknown_code : (Instr.unknownCommand 0x14 0).wf = true := by decide
theorem test_wf_known_code : (Instr.unknownCommand 0x10 0).wf = false := by decide
theorem test_wf_last_code : (Instr.unknownCommand 0xF0 0).wf = false := by decide
theorem test_wf_readonly_offset : (Instr.registerWriteIgnored 31 0).wf = true := by decide
theorem test_wf_written_offset : (Instr.registerWriteIgnored 18 0).wf = false := by decide
theorem test_wf_cmd_offset : (Instr.registerWriteIgnored 0 0).wf = false := by decide
theorem test_wf_flush_bad : (Instr.rqFlushBadOperand 4).wf = true := by decide
theorem test_wf_flush_good : (Instr.rqFlushBadOperand 3).wf = false := by decide
theorem test_no_row_has_bits : decodeTableWord 16 0x4310 = none := by decide

/-! ## Single steps -/

theorem test_part_id : State.reset.registerValue 30 = 0x4121#16 := by decide +kernel
theorem test_check_example :
    ([0x01, 0x01, 0x00] : List Byte).foldl checkFeed 0xFFFF#16 = 0x7A37#16 := by decide +kernel
theorem test_line_start : (after .lineStart State.reset).le.state = .idle := by decide +kernel
theorem test_line_start_refused :
    (after .lineStart (engine .idle none)).cres = 0x1001#16 := by decide +kernel
theorem test_unknown_code : (after (.unknownCommand 0xEE 0) State.reset).cres = 0xEE04#16 := by
  decide +kernel
theorem test_command_error_latched :
    (after (.unknownCommand 0xEE 0) State.reset).eu.latches = 0x400#12 := by decide +kernel
theorem test_enable_unconfigured : (after (.stnEnable 0) State.reset).cres = 0x3001#16 := by decide +kernel
theorem test_enable_disabled :
    ((after (.stnEnable 0) (withStation .disabled State.reset)).station 0).state = .probing := by
  decide +kernel
theorem test_enable_notice :
    (after (.stnEnable 0) (withStation .disabled State.reset)).registerValue 26 = 0x8220#16 := by
  decide +kernel
theorem test_submit_cleared : (after .rqSubmit State.reset).cres = 0x4104#16 := by decide +kernel
theorem test_submit_accepted :
    (after .rqSubmit (staging 2 [1] (withStation .online State.reset))).cqCount = 0x0100#16 := by
  decide +kernel
theorem test_submit_payload :
    (after .rqSubmit (staging 2 [0xAB] (withStation .online State.reset))).fs.mem = [(0, 0xAB)] := by
  decide +kernel
theorem test_cancel_not_found : (after .rqCancel State.reset).cres = 0x4206#16 := by decide +kernel
theorem test_retire_empty : (after .cpRetire State.reset).cres = 0x5107#16 := by decide +kernel
theorem test_pin_empty : (after (.snapPin 31) State.reset).cres = 0x6007#16 := by decide +kernel
theorem test_pin_bad_index : (after (.snapPin 32) State.reset).cres = 0x6004#16 := by decide +kernel
theorem test_tab_read_parameters :
    (after .tabReadLineParameters (selecting 2 0 [] State.reset)).bi.image.get 2 = 0x4243#16 := by
  decide +kernel
theorem test_tab_read_no_entry :
    (after .tabReadNoEntry (selecting 6 0 [] State.reset)).cres = 0x7004#16 := by decide +kernel
theorem test_tab_write_station :
    ((after .tabWriteStation
      (selecting 0 0 [0x0007, 0x1210, 3] State.reset)).station 0).state = .disabled := by decide +kernel
theorem test_tab_write_bad_range :
    (after .tabWriteStation (selecting 0 0 [0x0007, 0x1010, 3] State.reset)).cres = 0x7104#16 := by
  decide +kernel
theorem test_dport_write : (after (.dportWrite 0x12AB) State.reset).ru.staging.payload = [0xAB] := by
  decide +kernel
theorem test_dport_read_misuse : (after .dportRead State.reset).pins.dataBus = some 0 := by decide +kernel
theorem test_rq_sel : (after (.rqSelWrite 0xFFFF) State.reset).registerValue 5 = 0x8F1F#16 := by decide +kernel
theorem test_rq_ovr : (after (.rqOvrWrite 0xFFFF) State.reset).registerValue 7 = 0x070F#16 := by decide +kernel
theorem test_tab_sel : (after (.tabSelWrite 0xFFFF) State.reset).tabSel = 0x87FF#16 := by decide +kernel
theorem test_ev_enable :
    (after (.evEnableWrite 0xFFFF) State.reset).registerValue 19 = 0x0FFF#16 := by decide +kernel
theorem test_tick_counts : (after .tick State.reset).tb.counter = 1 := by decide +kernel
theorem test_reset_loses_writes :
    (after (.rqTagWrite 5) (after (.hardReset true) State.reset)).registerValue 6 = 0 := by decide +kernel
theorem test_poll_dispatched :
    (after .quietReport
      (walking true (withStation .online (engine .idle none)))).le.state = .turnaround := by decide +kernel
theorem test_poll_first_character :
    (after .quietReport (walking true (withStation .online (engine .idle none)))).li.supplied =
      some { data := 7, mark := true } := by decide +kernel
theorem test_no_turnaround_sends_at_once :
    (after .quietReport
      (noTurnaround (walking true (withStation .online (engine .idle none))))).le.state = .sending := by
  decide +kernel
theorem test_start_waits_for_the_clock :
    let s := after .clockStop (noTurnaround (quiet (withStation .probing State.reset)))
    (after .schedRun s).le.state = .turnaround ∧
      (after .clockResume (after .schedRun s)).le.state = .sending := by decide +kernel
theorem test_quiet_timer_stands_with_the_clock :
    let s := quiet State.reset
    let ordered := after .lineBreak (after .clockStop { s with li := { s.li with quietTimer := 900 } })
    ordered.li.monitor = .active ∧ ordered.li.quietTimer = 900 ∧
      (after .lineBreak { s with li := { s.li with quietTimer := 900 } }).li.quietTimer = 0 := by
  decide +kernel
theorem test_false_start_edge :
    (rxSample false (onLine .released none
        (.hunting (some (8, { Shift.fresh with votes := [true, true] }))) State.reset)).li.rx =
      .hunting (some (0, Shift.fresh)) := by decide +kernel
theorem test_held_low_end_is_no_edge :
    (rxSample false (onLine .released none (.heldLow 24 [true, true] false) State.reset)).li.rx =
      .hunting none := by decide +kernel
theorem test_pins_high_at_reset : State.reset.irqPin .a = true ∧ State.reset.irqPin .b = true := by
  decide +kernel
theorem test_tick_leaves_a_timer_it_loads :
    (after .tick { State.reset with
      cu := { CycleUnit.reset with state := .waiting } }).cu.timer = some 1000 := by decide +kernel
theorem test_probe_dispatched :
    ((after .schedRun (quiet (withStation .probing State.reset))).le.current.map
      Transaction.kind) = some .probe := by decide +kernel
theorem test_window_no_reply :
    (after .replyWindowExpiry
      (attempting { Attempt.blank with window := some 5 } (engine .awaiting (some readTxn)))).le.state =
      .holding := by decide +kernel
theorem test_collision :
    (after (.echoReport 6 true false false)
      (onLine (.sending { data := 7, mark := true } 0 none) none (.echoing Shift.fresh)
        (engine .sending (some readTxn)))).eu.latches = 0x040#12 := by decide +kernel
theorem test_break_toggles :
    (onLine (.breakLow 0) none (.heldLow 0 [] false)
      (State.reset.setStation 3 { station .online with toggle := true }) |> after .breakLowEnd
      |>.station 3).toggle = false := by decide +kernel
theorem test_buffer_wait :
    ({ quiet (withStation .online State.reset) with
      ru := { RequestUnit.reset with normal := [request 1] }
      fs := { FrameStore.reset with free := [] } } : State).bufferWait = true := by decide +kernel

/-! ## The hypotheses of the statements can be met

One theorem per statement that has hypotheses: states and operands that meet them, clause by clause, at
the ends of their ranges where a clause has a range. -/

/-- A POLL slot's transaction for station 0. -/
def pollTxn : Transaction := txn .pollSlot .poll (some 0)

/-- A broadcast request's transaction. -/
def bcastTxn : Transaction := txn (.request 7) .bcast none

theorem test_witness_EmptyQueueRunsTheClock :
    (State.reset.pending = [] ∧ State.reset.timeRuns = true ∧ State.reset.tb.prescaler < 1599 ∧
      State.reset.li.sampleLeft ≠ 0) ∧
    (let s := { State.reset with
        tb := { TimeBase.reset with prescaler := 1599 }
        li := { LineInterface.reset with sampleLeft := 0 } }
     s.pending = [] ∧ s.timeRuns = true ∧ 1599 ≤ s.tb.prescaler ∧ s.li.sampleLeft = 0) ∧
    (let s := after .clockStop State.reset
     s.pending = [] ∧ s.timeRuns = false) := by decide +kernel

/-- A receiver that finishes a character at an old divisor. -/
def atOldRate (left : Nat) : State :=
  let s := sampling 3 State.reset
  { s with li := { s.li with oldRate := some { divisor := 50, left := left } } }

/-- A level that another driver holds for so many periods and one. -/
def lowFor (n : Nat) : LineRun := { periods := n, level := some false }

theorem test_witness_EmptyQueue_periods :
    (sampling 0 State.reset).li.oldRate = none ∧
    ((atOldRate 7).timeRuns = true ∧ (atOldRate 7).tb.prescaler < 1599 ∧
      (atOldRate 7).li.sampleLeft ≠ 0 ∧ (atOldRate 7).li.oldRate = some { divisor := 50, left := 7 }) ∧
    (atOldRate 0).li.oldRate = some { divisor := 50, left := 0 } ∧
    (({ State.reset with lineIn := [lowFor 0] } : State).lineIn = lowFor 0 :: [] ∧
      (lowFor 0).periods = 0 ∧ (lowFor 1).periods ≠ 0) := by decide +kernel

theorem test_witness_EmptyQueue_ticks :
    (let s := { State.reset with tb := { TimeBase.reset with prescaler := 1599 } }
     s.timeRuns = true ∧ ¬s.li.sampleLeft = 0 ∧ 1599 ≤ s.tb.prescaler) ∧
    (let s := sampling 0 (atOldRate 7)
     let v := sampleWithoutRx s.lrx (sampling 103 s)
     s.li.oldRate ≠ none ∧ s.li.sampleLeft = 0 ∧ v.li.oldRate = some { divisor := 50, left := 7 }) ∧
    (let s := onLine (.turnaround 1) (some { data := 7, mark := true })
        (.assembling 20 Shift.fresh true) (sampling 103 (atOldRate 7))
     (sampleWithoutRx true s).li.oldRate = none) := by decide +kernel

theorem test_witness_EmptyQueue_orders :
    (let s := attempting { Attempt.blank with window := some 0 } (quiet (engine .awaiting (some readTxn)))
     s.lineTimerDue = true ∧ s.li.monitor = .quiet) ∧
    (let s := onLine (.turnaround 1) (some { data := 7, mark := true })
        (.assembling 168 Shift.fresh false) (engine .turnaround (some readTxn))
     s.li.takesReceiver = true ∧ s.li.rx.reportDue = true) ∧
    (let s : State := { onLine (.releaseBit 15) none (.hunting (some (8, Shift.fresh)))
        (engine .breaking none) with
          li := { (onLine (.releaseBit 15) none (.hunting (some (8, Shift.fresh))) State.reset).li with
            breakWaiting := true } }
     s.li.takesReceiver = true ∧ s.li.rx.reportDue = true) ∧
    (let s := onLine (.sending { data := 7, mark := true } 175 (some true)) none
        (.echoing Shift.fresh) (engine .sending (some readTxn))
     justAligned s.li (txSample true s).li = true) ∧
    (let s := attempting { Attempt.blank with window := some 0 }
        (onLine .released none (.hunting (some (8, Shift.fresh))) (engine .awaiting (some readTxn)))
     s.lineTimerDue = true ∧ s.li.rx.mayReport = true) ∧
    (let u := txSample true State.reset
     State.reset.lineTimerDue = false ∧ State.reset.li.takesReceiver = false ∧
        justAligned State.reset.li u.li = false ∧ u.li.rx.mayReport = false) := by decide +kernel

theorem test_witness_EmptyQueue_samples :
    (let s := attempting { Attempt.blank with window := some 0 } (engine .awaiting (some readTxn))
     s.timeRuns = true ∧ s.le.state = .awaiting ∧ s.le.attempt.window = some 0) ∧
    (let s := attempting { Attempt.blank with gap := some 0 } (engine .receiving (some readTxn))
     s.timeRuns = true ∧ s.le.state = .receiving ∧ s.le.attempt.gap = some 0) ∧
    (State.reset.li.lde = false ∧ State.reset.li.quietTimer + 1 < State.reset.le.params.quiet.toNat * 176) ∧
    (let l : LineInterface := { LineInterface.reset with quietTimer := 703 }
     l.monitor = .active ∧ l.quietTimer + 1 = LineParams.reset.quiet.toNat * 176) ∧
    (let l : LineInterface := { LineInterface.reset with quietTimer := 704 }
     l.monitor = .active ∧ LineParams.reset.quiet.toNat * 176 < l.quietTimer + 1) ∧
    (quiet State.reset).li.monitor = .quiet := by decide +kernel

theorem test_witness_ResetClockAndLostAccesses :
    (let s := after (.hardReset true) State.reset
     s.pins.resetPin = true ∧ s.timeRuns = false) ∧
    (let s := after (.resetRelease true) (after (.hardReset true) State.reset)
     s.pins.resetPin = false ∧ s.pins.strobeHeld = true) ∧
    (let s := onLine (.turnaround 0) (some { data := 7, mark := true }) (.hunting none) State.reset
     s.pins.resetPin = false ∧ s.li.tx = .turnaround 0 ∧
        s.li.supplied = some { data := 7, mark := true }) ∧
    State.reset.li.tx ≠ .turnaround 0 ∧
    isWriteRow .lineStart = true ∧ isReadRow .dportRead = true ∧ isTimedRow .tick = true := by
  decide +kernel

theorem test_witness_ResultsAndUnusedCodes :
    State.reset.Taken ∧ (0x14 : Byte) ∉ commandCodes ∧ (0 : Byte) ∉ [1, 2, 3] ∧
    (4 : Byte) ∉ [1, 2, 3] ∧ 32 ≤ (32 : Byte).toNat ∧ 32 ≤ (255 : Byte).toNat ∧
    1 ∈ ignoredOffsets ∧ 31 ∈ ignoredOffsets := by
  simp only [State.Taken]; decide +kernel

theorem test_witness_SoftReset : State.reset.Taken := ⟨rfl, rfl⟩

theorem test_witness_LineStart :
    (State.reset.Taken ∧ State.reset.le.state = .stopped ∧ State.reset.OfferFormed ∧
      State.reset.li.monitor = .active) ∧
    (engine .idle none).Taken ∧ (engine .idle none).le.state ≠ .stopped := by
  simp only [State.Taken, State.OfferFormed]; decide +kernel

theorem test_witness_LineStopAndBreak :
    (engine .idle none).Taken ∧ (engine .idle none).le.state = .idle ∧
    (engine .idle none).li.tx = .released ∧ State.reset.le.state = .stopped ∧
    (onLine (.releaseBit 3) none (.hunting none) State.reset).li.tx ≠ .released ∧
    (onLine (.sending { data := 7, mark := false } 170 (some false)) none (.echoing Shift.fresh)
      (engine .idle none)).li.tx ≠ .released ∧
    (let s := engine .holding (some readTxn)
     s.Taken ∧ s.le.state ≠ .idle ∧ s.le.state ≠ .stopped) := by
  simp only [State.Taken]; decide +kernel

theorem test_witness_LineHalt :
    (State.reset.Taken ∧ State.reset.le.state = .stopped) ∧
    (let s := engine .idle none
     s.Taken ∧ s.le.state = .idle ∧ s.le.current = none) ∧
    (let s := engine .sending (some readTxn)
     s.Taken ∧ s.le.state.holds = true ∧ s.le.current = some readTxn ∧
        readTxn.origin = .request 7) ∧
    (let s := engine .awaiting (some pollTxn)
     s.Taken ∧ s.le.state.holds = true ∧ s.le.current = some pollTxn ∧
        pollTxn.isRequest = false) ∧
    (let s := onLine (.breakLow 351) none (.heldLow 0 [] false) (engine .breaking none)
     s.Taken ∧ s.le.state = .breaking ∧ s.le.current = none ∧ s.li.cutIsCertain = false) ∧
    (let s := onLine (.breakLow 352) none (.heldLow 0 [] false) (engine .breaking none)
     s.Taken ∧ s.le.state = .breaking ∧ s.le.current = none ∧ s.li.cutIsCertain = true) := by
  simp only [State.Taken]; decide +kernel

theorem test_witness_ScheduleRunAndHalt_SchedSwap :
    (State.reset.Taken ∧ State.reset.cu.state = .halted) ∧
    (let s := walking true State.reset
     s.Taken ∧ s.cu.state ≠ .halted ∧ s.cu.swapPending = false) ∧
    (let s := after .schedSwap (walking true State.reset)
     s.Taken ∧ s.cu.state ≠ .halted ∧ s.cu.swapPending = true) := by
  simp only [State.Taken]; decide +kernel

theorem test_witness_CycleRules :
    State.reset.cu.active = .a ∧ State.reset.exchangeBanks.cu.active = .b ∧
    (let s := walking true (withStation .online State.reset)
     s.cu.state = .walking ∧ s.cu.pointer ≤ 0 ∧ 0 < s.cu.activeBank.length.toNat ∧
        (s.cu.activeBank.slots[0]?).any (fun x =>
          x.enabled && (s.station x.station).state.polled) = true) ∧
    (let s : State := { withStation .probing State.reset with
        cu := { CycleUnit.reset with state := .probePhase, probeList := [1, 0] } }
     s.cu.state = .probePhase ∧ s.cu.probeList[1]? = some 0 ∧
        (s.station 0).state.sought = true ∧ s.probeQualifies 0 = false) ∧
    (let s := walking false State.reset
     s.cu.state = .walking ∧ s.cu.activeBank.length.toNat = 1 ∧ s.slotQualifies 0 = false) ∧
    (let s : State := { State.reset with
        cu := { CycleUnit.reset with state := .probePhase, probeList := [31] } }
     s.cu.state = .probePhase ∧ s.cu.probeList.length = 1 ∧ s.probeQualifies 0 = false) ∧
    State.reset.cu.state = .halted ∧
    (let c : CycleUnit := { CycleUnit.reset with startPending := true }
     c.startPending = true) ∧
    (let c : CycleUnit := { CycleUnit.reset with dispatched := true }
     c.startPending = false ∧ c.timer = none ∧ c.dispatched = true) ∧
    CycleUnit.reset.startPending = false ∧ CycleUnit.reset.dispatched = false := by decide +kernel

theorem test_witness_StationEnableDisable :
    ((withStation .disabled State.reset).Taken ∧
      ((withStation .disabled State.reset).station 0).state = .disabled) ∧
    (State.reset.station 31).state = .unconfigured ∧
    (let e := (withStation .mismatched State.reset).station 0
     e.state ≠ .disabled ∧ e.state ≠ .unconfigured) := by
  simp only [State.Taken]; decide +kernel

/-- A notice of station 3 that has counted as far as it can. -/
def notice : Notice :=
  { station := 3, firstOld := .online, latestNew := .degraded, count := 255, stamp := 0 }

theorem test_witness_ChangeNotices :
    (∀ m ∈ [notice], m.station ≠ 4) ∧ (([] ++ notice :: []).map Notice.station).Nodup ∧
    (let s : State := { State.reset with st := { StationTable.reset with changes := [notice] } }
     s.Taken ∧ s.st.changes = notice :: []) ∧
    State.reset.Taken ∧ State.reset.st.changes = [] := by
  simp only [State.Taken]; decide +kernel

theorem test_witness_StationReports :
    (station .online).state = .online ∧ (station .probing).state = .probing ∧
    (station .offline).state = .offline ∧ (station .mismatched).state = .mismatched ∧
    (station .online).expectedClass = 0 ∧
    ({ station .online with expectedClass := 9 }).expectedClass ≠ 8 ∧
    1 < (station .online).failLimit.toNat ∧
    ({ station .online with failLimit := 1 }).failLimit.toNat ≤ 1 ∧
    (let e := { station .probing with failCount := 0 }
     (e.failCount + 1).toNat < e.failLimit.toNat) ∧
    (let e := { station .degraded with failCount := 1 }
     e.state = .degraded ∧ e.failLimit.toNat ≤ (e.failCount + 1).toNat) ∧
    StationState.active .offline = true ∧ StationState.active .disabled = false ∧
    Result.collision.report.cls = .neither := by decide +kernel

theorem test_witness_RqClear : State.reset.Taken := ⟨rfl, rfl⟩

theorem test_witness_RqSubmitRefusals :
    (State.reset.Taken ∧ State.reset.OperandWrong) ∧
    (let s := staging 5 [] State.reset
     ¬s.OperandWrong ∧ s.ru.staging.urgent = false ∧
        32 ≤ ({ s with cq := { ring := [], reserved := 32 } } : State).cq.reserved) ∧
    (let s := staging 5 [] State.reset
     let u := { s with
        ru := { s.ru with
          urgent := List.replicate 8 (request 1)
          staging := { s.ru.staging with urgent := true } } }
     ¬u.OperandWrong ∧ u.ru.staging.urgent = true ∧ 8 ≤ u.ru.urgent.length) ∧
    (let s := staging 5 [] State.reset
     let u := { s with ru := { s.ru with normal := List.replicate 16 (request 1) } }
     ¬u.OperandWrong ∧ u.ru.staging.urgent = false ∧ 16 ≤ u.ru.normal.length) ∧
    (let s := staging 5 [1] State.reset
     let u := { s with fs := { s.fs with free := [] } }
     ¬u.OperandWrong ∧ u.cq.reserved + u.cq.ring.length < 32 ∧ u.ru.normal.length < 16 ∧
        u.freeCount < (u.stagedLength + 31) / 32) := by
  simp only [State.Taken, State.OperandWrong]; decide +kernel

theorem test_witness_RqSubmitAccepts :
    (let s := staging 2 (List.replicate 96 0xAA) (withStation .offline State.reset)
     s.Taken ∧ ¬s.OperandWrong ∧ s.ru.staging.kind = CommandKind.code .read ∧
        s.cq.reserved + s.cq.ring.length < 32 ∧ s.ru.normal.length < 16 ∧
        (s.stagedLength + 31) / 32 ≤ s.freeCount) ∧
    (let s := staging 6 [] State.reset
     s.Taken ∧ ¬s.OperandWrong ∧ s.ru.staging.kind = CommandKind.code .timesync) ∧
    (Memory.wf [] = true ∧ ([3, 1, 2] : Chain).Nodup ∧
      (List.replicate 96 (0xAA : Byte)).length ≤ 32 * ([3, 1, 2] : Chain).length) := by
  simp only [State.Taken, State.OperandWrong]; decide +kernel

theorem test_witness_RqCancel :
    (let s := staging 2 [] State.reset
     let u := { s with ru := { s.ru with urgent := [request 1, request 7] } }
     u.Taken ∧ u.ru.urgent = [request 1] ++ request 7 :: [] ∧
        (∀ x ∈ [request 1], x.tag ≠ u.ru.staging.tag) ∧ (request 7).tag = u.ru.staging.tag) ∧
    (let s := staging 2 [] State.reset
     let u := { s with ru := { s.ru with normal := [request 7] } }
     (∀ x ∈ u.ru.urgent, x.tag ≠ u.ru.staging.tag) ∧ u.ru.normal = [] ++ request 7 :: [] ∧
        (request 7).tag = u.ru.staging.tag) ∧
    (let s := withDeferred 0 [0] (staging 2 [] State.reset)
     s.Taken ∧ s.DeferredWf ∧ (∀ x ∈ s.ru.normal, x.tag ≠ s.ru.staging.tag) ∧
        s.le.deferred = [] ++ deferred 0 :: [] ∧
        (deferred 0).txn.origin = .request s.ru.staging.tag) ∧
    (let s := staging 2 [] (engine .awaiting (some readTxn))
     (∀ d ∈ s.le.deferred, d.txn.origin ≠ .request s.ru.staging.tag) ∧
        s.le.current = some readTxn ∧ readTxn.origin = .request s.ru.staging.tag ∧
        readTxn.cancel = false ∧ s.le.state ≠ .holding) ∧
    (engine .holding (some readTxn)).le.state = .holding ∧
    ({ readTxn with cancel := true }).cancel = true ∧
    (∀ x, State.reset.le.current = some x → x.origin ≠ .request 0) := by
  refine ⟨?_, ?_, ?_, ?_, ?_, ?_, ?_⟩
  · simp only [State.Taken]; decide +kernel
  · decide +kernel
  · simp only [State.Taken, State.DeferredWf, Transaction.PayloadFits]; decide +kernel
  · decide +kernel
  · rfl
  · rfl
  · exact fun x h => nomatch h

theorem test_witness_RqFlush : State.reset.Taken := ⟨rfl, rfl⟩

theorem test_witness_CompletionCommands :
    (State.reset.Taken ∧ State.reset.cq.ring = []) ∧
    (let s := withRing [record [] 0] State.reset
     s.Taken ∧ s.cq.ring = record [] 0 :: [] ∧ (record [] 0).chain = []) ∧
    (let s := withRing [record [5] 32] State.reset
     s.Taken ∧ s.cq.ring = record [5] 32 :: [] ∧ (record [5] 32).chain ≠ [] ∧
        (record [5] 32).replyLength = some 32) := by
  simp only [State.Taken]; decide +kernel

theorem test_witness_SnapshotCommands :
    (let s := withSnapshot true (some installed) none State.reset
     s.Taken ∧ (s.snapshot 0).pinned = true ∧ (s.snapshot 0).next = none ∧
        (s.snapshot 0).current = some installed ∧ installed.chain ≠ []) ∧
    (let s := withSnapshot true (some { installed with chain := [], length := 0 })
        (some installed) State.reset
     (s.snapshot 0).pinned = true ∧ (s.snapshot 0).next = some installed) ∧
    (State.reset.Taken ∧ (State.reset.snapshot 31).pinned = false ∧
      (State.reset.snapshot 31).current = none) ∧
    (let s := withSnapshot false (some installed) none State.reset
     (s.snapshot 0).pinned = false ∧ (s.snapshot 0).current ≠ none) := by
  simp only [State.Taken]; decide +kernel

theorem test_witness_SnapshotInstall :
    (State.reset.snapshot 0).pinned = false ∧
    ((withSnapshot true (some installed) none State.reset).snapshot 0).pinned = true := by
  decide +kernel

theorem test_witness_TableReads :
    (selecting 0 31 [] State.reset).Taken ∧
    (31 : Byte).toNat < 32 ∧ (63 : Byte).toNat < 64 ∧ 128 ≤ (191 : Byte).toNat ∧
    (191 : Byte).toNat < 192 ∧ (11 : Byte).toNat < 12 ∧ 6 ≤ (7 : BitVec 3).toNat ∧
    (64 < (65 : Byte).toNat ∧ (127 : Byte).toNat < 128) ∧ 192 < (193 : Byte).toNat ∧
    12 ≤ (12 : Byte).toNat ∧ 32 ≤ (32 : Byte).toNat := by
  simp only [State.Taken]; decide +kernel

theorem test_witness_TableWriteStation :
    (let s := selecting 0 0 [] (withStation .online State.reset)
     s.Taken ∧ s.bi.tabSelect = 0 ∧ s.bi.tabIndex = BitVec.ofNat 8 0 ∧
        (s.station 0).state.active = true) ∧
    (let s := selecting 0 1 [240, 0x1110, 1] State.reset
     (s.station 1).state.active = false ∧ s.targeted 1 = false ∧
        240 ≤ ((s.station 1).staged s.bi.image).address.toNat) ∧
    (let s := selecting 0 1 [239, 0x1110, 0] State.reset
     let new := (s.station 1).staged s.bi.image
     new.address ≠ 0 ∧ new.address.toNat < 240 ∧ new.probeInterval = 0) ∧
    (let s := selecting 0 1 [7, 0x1110, 1] (withStation .online State.reset)
     let new := (s.station 1).staged s.bi.image
     new.failLimit ≠ 0 ∧ new.replyBlocks ≠ 0 ∧ new.probeInterval ≠ 0 ∧ (0 : Fin 32) ≠ 1 ∧
        (s.station 0).state ≠ .unconfigured ∧ (s.station 0).address = new.address) ∧
    (let s := selecting 0 1 [1, 0x1110, 1] (withStation .online State.reset)
     let new := (s.station 1).staged s.bi.image
     ¬∃ j, j ≠ (1 : Fin 32) ∧ (s.station j).state ≠ .unconfigured ∧
        (s.station j).address = new.address) ∧
    (let s := selecting 0 0 [] (withStation .disabled State.reset)
     (s.station 0).state.active = false ∧ s.targeted 0 = false ∧
        ((s.station 0).staged s.bi.image).address = 0) := by
  simp only [State.Taken]; decide +kernel

theorem test_witness_TableWriteOthers :
    (let s := selecting 1 64 [] State.reset
     s.Taken ∧ s.bi.tabSelect = 1 ∧ s.bi.tabIndex = BitVec.ofNat 8 (0 + (64 : Fin 65).val) ∧
        s.cu.active = .a) ∧
    (let s := selecting 1 191 [0x021F] State.reset
     s.bi.tabIndex = BitVec.ofNat 8 (128 + (63 : Fin 64).val) ∧ s.cu.active ≠ .b ∧
        (field 8 0 (s.bi.image.get 0)).toNat < 32 ∧
        field 4 8 (s.bi.image.get 0) = SlotKind.code .read) ∧
    (field 8 0 0x0120#16).toNat = 32 ∧ field 4 8 0x0300#16 ≠ 1 ∧ field 4 8 0x0300#16 ≠ 2 ∧
    (let s := selecting 1 192 [64] State.reset
     s.bi.tabIndex = BitVec.ofNat 8 (128 + 64) ∧ field 8 0 (s.bi.image.get 0) ≠ 0 ∧
        (field 8 0 (s.bi.image.get 0)).toNat ≤ 64) ∧
    (field 8 0 65#16).toNat = 65 ∧
    (let s := selecting 2 0 [103, 0x1402, 0x4243, 0x0132, 1000] State.reset
     let p := LineParams.staged s.bi.image
     s.Taken ∧ s.bi.tabSelect = 2 ∧ s.bi.tabIndex = 0 ∧ s.le.state = .stopped ∧
        (s.bi.image.get 0).toNat ≤ 4095 ∧ p.window ≠ 0 ∧ p.gap ≠ 0 ∧ p.quiet ≠ 0 ∧
        2 ≤ p.breakLength.toNat ∧ p.holdoff ≠ 0 ∧ 1 ≤ p.threshold.toNat ∧
        p.threshold.toNat ≤ 32 ∧ p.divisor = s.le.params.divisor ∧
        p.quiet = s.le.params.quiet) ∧
    (let s := selecting 2 0 [4095, 0x1402, 0x4243, 0x2032, 1000] State.reset
     let p := LineParams.staged s.bi.image
     (s.bi.image.get 0).toNat ≤ 4095 ∧ p.threshold.toNat ≤ 32 ∧
        p.divisor ≠ s.le.params.divisor) ∧
    (engine .idle none).le.state ≠ .stopped ∧ ¬(4096#16).toNat ≤ 4095 ∧
    (let s := selecting 4 11 [0x0107] State.reset
     s.bi.tabIndex = BitVec.ofNat 8 (11 : Fin 12).val ∧
        (field 4 0 (s.bi.image.get 0)).toNat < 8 ∧
        field 2 8 (s.bi.image.get 0) = Output.code .b) ∧
    8 ≤ (field 4 0 8#16).toNat ∧ 2 ≤ (field 2 8 0x0200#16).toNat := by
  simp only [State.Taken]; decide +kernel

theorem test_witness_TimeBaseRows_Registers : State.reset.Taken ∧
    (3 : Fin 4).val + 4 = (7 : Fin 8).val ∧ (0 : Fin 4).val + 0 = (0 : Fin 8).val := by
  simp only [State.Taken]; decide +kernel

theorem test_witness_StagingAndTableRegisters :
    State.reset.cq.ring = [] ∧ State.reset.st.changes = [] ∧
    (withRing [record [5] 32] State.reset).cq.ring = record [5] 32 :: [] ∧
    ({ StationTable.reset with changes := [notice] }).changes = notice :: [] := by decide +kernel

theorem test_witness_DataPort :
    (let s := staging 2 (List.replicate 95 0) State.reset
     s.Taken ∧ s.fs.cursor = .staging ∧ s.ru.staging.payload.length < 96) ∧
    (let s := staging 2 (List.replicate 96 0) State.reset
     s.fs.cursor = .staging ∧ 96 ≤ s.ru.staging.payload.length) ∧
    (let s := withCursor (.completion 31 1) (withRing [record [5] 32] State.reset)
     s.fs.cursor = .completion 31 1 ∧ (1 : BitVec 7) ≠ 0 ∧ s.cq.ring = record [5] 32 :: [] ∧
        (record [5] 32).chain[(31 : BitVec 7).toNat / 32]? = some 5) ∧
    (let s := withCursor (.snapshot 0 0 1) (withSnapshot true (some installed) none State.reset)
     s.fs.cursor = .snapshot 0 0 1 ∧ (s.snapshot 0).current = some installed ∧
        installed.chain[(0 : BitVec 7).toNat / 32]? = some 9) ∧
    (withCursor (.completion 32 0) State.reset).fs.cursor = .completion 32 0 ∧
    (withCursor .none State.reset).fs.cursor = .none := by
  simp only [State.Taken]; decide +kernel

theorem test_witness_EventsAndOutputs :
    State.reset.Taken ∧
    (let s : State := { State.reset with
        eu := { EventUnit.reset with
          latches := 0x800#12, enables := 0x800#12
          routes := EventUnit.reset.routes.set 11 { level := 7, output := .b } } }
     ∃ n : Fin 12, (s.eu.routes.get n).output = .b ∧ (s.eu.routes.get n).level ≠ 0 ∧
        s.eu.enables.getLsbD n.val = true ∧ s.events.getLsbD n.val = true) ∧
    ∀ n : Fin 12, ¬(State.reset.eu.enables.getLsbD n.val = true) := by
  simp only [State.Taken]; decide +kernel

theorem test_witness_TickRow :
    State.reset.timeRuns = true ∧ State.reset.holdoffDue = false ∧
    (let s := withDeferred 1 [] { State.reset with cu := { CycleUnit.reset with state := .waiting } }
     s.timeRuns = true ∧ s.holdoffDue = true ∧ s.cycleDue = true) := by decide +kernel

theorem test_witness_TickTimers :
    (let s := withDeferred 255 [] State.reset
     s.timeRuns = true ∧ s.le.deferred[(0 : Fin 4).val]? = some (deferred 255) ∧
        (deferred 255).holdoff ≠ 0) ∧
    (let s := withDeferred 0 [0] State.reset
     ∀ d, s.le.deferred[(3 : Fin 4).val]? = some d → d.holdoff = 0) ∧
    ({ CycleUnit.reset with timer := some 1 }).timer ≠ none ∧ CycleUnit.reset.timer = none ∧
    (let c : CycleUnit := { CycleUnit.reset with timer := none, state := .waiting }
     c.timer = none ∧ c.state = .waiting) ∧
    1 < (2 : BitVec 16).toNat ∧ (1 : BitVec 16).toNat ≤ 1 := by
  refine ⟨by decide +kernel, ?_, by decide +kernel⟩
  intro s d h
  exact nomatch h

theorem test_witness_QuietAndActiveRows :
    (let s := engine .idle none
     s.timeRuns = true ∧ s.li.monitor = .active ∧ s.li.lde = false ∧ s.le.state ≠ .holding) ∧
    (let s := withStation .disabled (engine .holding (some readTxn))
     s.le.state = .holding ∧ s.le.current = some readTxn ∧ s.targetLost readTxn = true) ∧
    (let s := withStation .offline (engine .holding (some readTxn))
     s.le.state = .holding ∧ s.le.current = some readTxn ∧ s.targetLost readTxn = false) ∧
    (quiet State.reset).li.monitor = .quiet := by decide +kernel

theorem test_witness_LineTimerRows :
    (let s := attempting { Attempt.blank with window := some 1, pending := true }
        (engine .awaiting (some readTxn))
     s.timeRuns = true ∧ s.le.current = some readTxn ∧ s.le.state = .awaiting ∧
        s.le.attempt.window ≠ none ∧ s.le.attempt.pending = true) ∧
    (let s := attempting { Attempt.blank with window := some 1 } (engine .awaiting (some readTxn))
     s.le.attempt.window ≠ none ∧ s.le.attempt.pending = false) ∧
    (let s := attempting { Attempt.blank with gap := some 1 } (engine .receiving (some readTxn))
     s.le.current = some readTxn ∧ s.le.state = .receiving ∧ s.le.attempt.gap ≠ none) ∧
    (engine .holding (some readTxn)).le.state ≠ .awaiting ∧
    ((engine .idle none).le.state ≠ .receiving ∧ (engine .idle none).le.current = none) := by
  decide +kernel

theorem test_witness_StartReportRow :
    (let s := onLine .released none (.hunting none) (engine .awaiting (some readTxn))
     s.timeRuns = true ∧ s.li.pastLastStopBit.rx = .hunting none ∧ s.le.state = .awaiting) ∧
    (let s := onLine (.sending { data := 0, mark := false } 175 (some false)) none
        (.echoing Shift.fresh) (engine .sending (some readTxn))
     s.li.pastLastStopBit.rx = .hunting none ∧ s.le.state = .sending) ∧
    (let s := onLine .released none (.hunting none) State.reset
     s.li.pastLastStopBit.rx = .hunting none ∧ s.le.state = .stopped) ∧
    (engine .idle none).le.state = .idle ∧
    (engine .receiving (some readTxn)).le.state = .receiving ∧
    (∀ w, State.reset.li.pastLastStopBit.rx ≠ .hunting w) := by
  refine ⟨by decide +kernel, by decide +kernel, by decide +kernel, rfl, rfl, fun w h => nomatch h⟩

theorem test_witness_CharacterReportRow :
    (let s := onLine .released none (.assembling 168 Shift.fresh true) State.reset
     s.timeRuns = true ∧ s.li.rx = .assembling 168 Shift.fresh true) ∧
    (let s := attempting { Attempt.blank with windowOut := true }
        (onLine .released none (.assembling 168 Shift.fresh false) (engine .awaiting (some readTxn)))
     s.li.rx = .assembling 168 Shift.fresh false ∧ s.le.current = some readTxn ∧
        s.le.state = .awaiting ∧ s.le.attempt.windowOut = true) ∧
    (engine .receiving (some readTxn)).le.attempt.windowOut = false ∧
    (engine .receiving (some readTxn)).le.state = .receiving ∧
    (engine .sending (some readTxn)).le.state = .sending ∧
    (engine .holding (some readTxn)).le.state = .holding ∧
    (∀ n h foreign, State.reset.li.rx ≠ .assembling n h foreign) := by
  refine ⟨by decide +kernel, by decide +kernel, rfl, rfl, rfl, rfl, fun n h f e => nomatch e⟩

/-- The positions decided of a whole character: data bits 1, 0, 1, 0, 1, 0, 1, 0, no mark. -/
def decided : Shift :=
  { Shift.fresh with
    bits := [false, true, false, true, false, true, false, true, false, false, true] }

theorem test_witness_positions :
    7 % 16 = 7 ∧ 168 % 16 = 8 ∧ 345 % 16 = 9 ∧ (6 % 16 < 7 ∧ 9 < 10 % 16) ∧
    ({ Shift.fresh with votes := [true, false] }).votes = [true, false] ∧
    (decided.bits = [false, true, false, true, false, true, false, true, false, false, true] ∧
      decided.report.data = 0x55) := by decide +kernel

theorem test_witness_receiver_samples :
    State.reset.li.lastSample = true ∧
    (onLine .released none (.hunting none) State.reset).li.rx = .hunting none ∧
    (let h : Shift := { Shift.fresh with votes := [false, true] }
     (Shift.fresh.sample 1 true).2 = none ∧ (h.sample 9 true).2 = some true ∧
        (h.sample 9 false).2 = some false) ∧
    (onLine .released none (.assembling 167 decided true) State.reset).li.rx =
      .assembling 167 decided true ∧
    (let s := onLine .released none (.heldLow 344 [false, true] true) State.reset
     s.li.rx = .heldLow 344 [false, true] true ∧ s.li.tx.breaking = false ∧ (344 + 1) % 16 = 9) ∧
    (onLine (.breakHigh 3) none (.heldLow 2 [] false) State.reset).li.tx.breaking = true ∧
    (onLine (.turnaround 3) none (.echoing decided) State.reset).li.rx = .echoing decided := by
  decide +kernel

theorem test_witness_ReplyCharacters :
    (engine .receiving (some readTxn)).le.current = some readTxn ∧
    ({ Attempt.blank with taken := 1 }).taken = 1 ∧ (96 : Byte).toNat ≤ 96 ∧
    96 < (97 : Byte).toNat ∧
    (let a := { Attempt.blank with taken := 3, replyLength := 1 }
     3 ≤ a.taken ∧ a.taken < 3 + a.replyLength.toNat) ∧
    (let a := { Attempt.blank with taken := 3, replyLength := 0 }
     3 ≤ a.taken ∧ a.taken = 3 + a.replyLength.toNat) ∧
    (let a := { Attempt.blank with taken := 4, replyLength := 0 }
     3 ≤ a.taken ∧ 3 + a.replyLength.toNat < a.taken) ∧
    (Memory.wf [] = true ∧ ([3, 1] : Chain)[63 / 32]? = some 1 ∧
      ([3, 1] : Chain)[64 / 32]? = none) := by decide +kernel

theorem test_witness_ReplyJudgement :
    ({ Attempt.blank with markCause := some .noise }).markCause = some .noise ∧
    (let a := { Attempt.blank with replyCheck := 0x1234#16, checkLow := 0x34 }
     a.markCause = none ∧ BitVec.append 0x12#8 a.checkLow = a.replyCheck ∧
        BitVec.append 0x13#8 a.checkLow ≠ a.replyCheck ∧ a.replyAddress = a.address) ∧
    ({ Attempt.blank with replyAddress := 9 }).replyAddress ≠ Attempt.blank.address ∧
    (0x28 : Byte).extractLsb' 5 3 = 1#3 ∧ (0x28 : Byte).extractLsb' 0 4 = ReplyKind.code .data ∧
    readTxn.kind = .read ∧ ¬(0x08 : Byte).extractLsb' 5 3 = 1#3 ∧
    32 * readTxn.reservation.length < 33 ∧ 32 ≤ 32 * readTxn.reservation.length := by
  decide +kernel

theorem test_witness_TransmitRows :
    (let c : TxChar := { data := 7, mark := true }
     let s := onLine (.turnaround 0) (some c) (.hunting none) (engine .turnaround (some readTxn))
     s.timeRuns = true ∧ s.li.tx = .turnaround 0 ∧ s.li.supplied = some c ∧
        s.le.state = .turnaround ∧ s.le.current = some readTxn) ∧
    (let c : TxChar := { data := 7, mark := true }
     let s := onLine (.turnaround 0) (some c) (.hunting none) State.reset
     s.li.tx = .turnaround 0 ∧ s.li.supplied = some c ∧ s.le.state ≠ .turnaround) ∧
    (let s := onLine (.releaseBit 15) none (.hunting none) (engine .sending (some readTxn))
     s.li.pastLastStopBit.tx = .releaseBit 15 ∧ s.le.state = .sending) ∧
    State.reset.le.state ≠ .sending ∧
    (onLine (.breakLow 0) none (.heldLow 0 [] false) State.reset).li.tx = .breakLow 0 ∧
    State.reset.li.supplied = none ∧ (∀ n, State.reset.li.tx ≠ .breakLow n) := by
  refine ⟨by decide +kernel, by decide +kernel, by decide +kernel, by decide +kernel, rfl, rfl,
    fun n e => nomatch e⟩

theorem test_witness_transmitter_samples :
    (let c : TxChar := { data := 7, mark := true }
     let s := onLine (.sending c 168 none) none (.echoing decided) State.reset
     s.timeRuns = true ∧ s.li.tx = .sending c 168 none ∧ s.li.rx = .echoing decided) ∧
    (let c : TxChar := { data := 7, mark := true }
     let s := onLine (.sending c 175 (some true)) (some c) (.echoing decided) State.reset
     s.li.tx = .sending c 175 (some true) ∧ 175 ≤ 175 ∧ s.li.supplied = some c) ∧
    (onLine (.turnaround 2) none (.hunting none) State.reset).li.tx = .turnaround 2 ∧
    ((onLine (.breakLow 351) none (.heldLow 0 [] false) State.reset).li.tx = .breakLow 351 ∧
      LineParams.reset.breakLength.toNat * 176 = 351 + 1) := by decide +kernel

theorem test_witness_EchoRow :
    (let c : TxChar := { data := 7, mark := true }
     let s := onLine (.sending c 168 none) none (.echoing Shift.fresh)
        (engine .sending (some bcastTxn))
     s.timeRuns = true ∧ s.li.tx = .sending c 168 none ∧ s.le.state = .sending ∧
        s.le.current = some bcastTxn ∧ s.frameByte bcastTxn 5 = none ∧
        s.frameByte bcastTxn 0 ≠ none) ∧
    (let c : TxChar := { data := 7, mark := true }
     let s := onLine (.sending c 169 (some false)) (some c) (.echoing Shift.fresh) State.reset
     s.li.tx = .sending c 169 (some false) ∧ s.li.supplied = some c ∧ s.le.state ≠ .sending) ∧
    bcastTxn.kind = .bcast ∧ readTxn.kind ≠ .bcast ∧ readTxn.kind ≠ .timesync ∧
    (∀ c n e, State.reset.li.tx ≠ .sending c n e) := by
  refine ⟨by decide +kernel, by decide +kernel, rfl, by decide, by decide, fun c n e h => nomatch h⟩

theorem test_witness_CommandFrames :
    readTxn.origin = .request 7 ∧ readTxn.kind ≠ .timesync ∧
    (txn (.request 7) .timesync none).kind = .timesync ∧ pollTxn.origin = .pollSlot ∧
    (txn .readSlot .read (some 0)).origin = .readSlot ∧
    (let x : Transaction := { readTxn with payload := [3, 4, 5], length := 96 }
     x.payload[95 / 32]? = some 5 ∧ x.sendLength = 96) ∧
    (State.reset.le.params.turnaround ≠ 0 ∧ (after .clockStop State.reset).pins.clock = false) ∧
    ((noTurnaround State.reset).le.params.turnaround = 0 ∧
      (noTurnaround State.reset).pins.clock = true) ∧
    State.reset.frameByte readTxn 0 ≠ none := by decide +kernel

theorem test_witness_BreakRows :
    (let s := onLine (.breakHigh 15) none (.heldLow 0 [] false) (engine .breaking none)
     s.timeRuns = true ∧ s.li.tx = .breakHigh 15 ∧ s.li.breakWaiting = false ∧
        s.le.state = .breaking ∧ s.le.breakFromStopped = true) ∧
    ({ LineInterface.reset with breakWaiting := true }).breakWaiting = true ∧
    (let e : LineEngine := { LineEngine.reset with breakFromStopped := false }
     e.stopMark = false ∧ e.breakFromStopped = false) ∧
    (let s := onLine .released none (.heldLow 344 [] true) (engine .awaiting (some readTxn))
     s.li.rx = .heldLow 344 [] true ∧ s.le.state = .awaiting ∧
        s.le.current = some readTxn) ∧
    State.reset.le.state ≠ .awaiting ∧ State.reset.le.state ≠ .receiving ∧
    (State.reset.li.pastLastStopBit.rx = .heldLow 0 [] false ∧
      State.reset.li.pastLastStopBit.tx.breaking = false) ∧
    (onLine (.breakLow 3) none (.heldLow 0 [] false) State.reset).li.tx.breaking = true := by
  decide +kernel

theorem test_witness_AttemptResults :
    ReplyKind.data ≠ .busy ∧ ({ readTxn with cancel := true }).cancel = true ∧
    1 + readTxn.retryLimit.toNat ≤ ({ readTxn with attempts := 2 }).attempts.toNat ∧
    (readTxn.cancel = false ∧ readTxn.attempts.toNat < 1 + readTxn.retryLimit.toNat) ∧
    (quiet State.reset).li.monitor = .quiet ∧ State.reset.li.monitor = .active ∧
    (withStation .disabled State.reset).targetLost readTxn = true ∧
    (withStation .online State.reset).targetLost readTxn = false ∧
    (readTxn.target = some 0 ∧
      readTxn.busyCount.toNat < ((withStation .online State.reset).station 0).busyLimit.toNat ∧
      State.reset.le.deferred.length < 4) ∧
    State.reset.DeferredWf := by
  simp only [State.DeferredWf, Transaction.PayloadFits]; decide +kernel

theorem test_witness_TransactionEnd :
    readTxn.origin = .request 7 ∧ pollTxn.isRequest = false ∧ pollTxn.target = some 0 ∧
    ((withStation .online State.reset).station 0).state ≠ .disabled ∧
    ((withStation .disabled State.reset).station 0).state = .disabled ∧
    ReplyKind.data ≠ .ident := by decide +kernel

theorem test_witness_ArbiterOrder :
    (let s := withDeferred 0 [0] State.reset
     s.DeferredWf ∧ s.le.expired = 0 :: [] ∧ deferred 0 ∈ s.le.deferred ∧
        (deferred 0).id = 0) ∧
    (State.reset.le.expired = [] ∧ State.reset.ru.urgent = [] ∧ State.reset.ru.normal = [] ∧
      State.reset.offer = none) ∧
    ({ RequestUnit.reset with urgent := [request 1] }).urgent = request 1 :: [] ∧
    (LineParams.reset.share.toNat ≠ 0 ∧ LineParams.reset.share.toNat ≤ (4 : BitVec 4).toNat ∧
      (3 : BitVec 4).toNat < LineParams.reset.share.toNat) ∧
    (walking true (withStation .online State.reset)).offer ≠ none ∧
    ((deferred 0).txn.target = some 0 ∧ (deferred 0).txn.blocksOverride = none) := by
  simp only [State.DeferredWf, Transaction.PayloadFits]; decide +kernel

theorem test_witness_StationCheck :
    stationCheck .read .degraded = none ∧ stationCheck .read .offline = some .stationOffline ∧
    (request 1).station = some 0 ∧ ({ request 1 with station := none }).station = none ∧
    (deferred 0).txn.target = some 0 ∧ (deferred 0).txn.origin = .request 7 ∧
    pollTxn.origin = .pollSlot ∧ StationState.probing ≠ .online ∧
    StationState.probing ≠ .degraded := by decide +kernel

theorem test_witness_ArbiterChooses :
    (let s := quiet (withStation .online State.reset)
     let u := { s with ru := { s.ru with urgent := [request 1] } }
     u.OfferFormed ∧ u.DeferredWf ∧ u.arbiterActs = true ∧
        u.candidate = some (.urgent (request 1) []) ∧
        (Candidate.urgent (request 1) []).turnedAway u = none ∧
        (Candidate.urgent (request 1) []).need u ≤ u.freeCount) ∧
    (let s := quiet (withStation .disabled State.reset)
     let u := { s with ru := { s.ru with urgent := [request 1] } }
     u.OfferFormed ∧ u.arbiterActs = true ∧ u.candidate = some (.urgent (request 1) []) ∧
        (Candidate.urgent (request 1) []).turnedAway u ≠ none) ∧
    (let s := quiet (withStation .online State.reset)
     let u : State := { s with
        ru := { s.ru with urgent := [request 1] }, fs := { s.fs with free := [] } }
     u.OfferFormed ∧ u.arbiterActs = true ∧ u.candidate = some (.urgent (request 1) []) ∧
        (Candidate.urgent (request 1) []).turnedAway u = none ∧
        u.freeCount < (Candidate.urgent (request 1) []).need u) ∧
    (State.reset.OfferFormed ∧ State.reset.arbiterActs = false) ∧
    ((quiet State.reset).OfferFormed ∧ (quiet State.reset).candidate = none) := by
  simp only [State.OfferFormed, State.DeferredWf, Transaction.PayloadFits]; decide +kernel

theorem test_witness_SettleFrame : State.reset.le.state ≠ .idle := by decide

/-- The hypotheses of the invariants that steps keep, at reset, where a step gives a next state. -/
theorem test_witness_invariants :
    (State.reset.EngineCoherent ∧ State.reset.DeferredWf ∧ State.reset.le.current = none) ∧
    State.reset.StopMarkFits ∧ State.reset.SlotsAccounted ∧ State.reset.LatchesFit ∧
    State.reset.ParamsFit ∧ State.reset.MemoryFits ∧ State.reset.NoticesDistinct ∧
    State.reset.StagingFits ∧ State.reset.OfferFormed ∧ State.reset.ArbiterAtRest ∧
    State.reset.StationsFit ∧ State.reset.AddressesDistinct ∧ State.reset.BlocksAccounted ∧
    ∃ t, step State.reset = .next t := by
  simp only [State.EngineCoherent, State.DeferredWf, Transaction.PayloadFits, State.StopMarkFits,
    State.SlotsAccounted, State.LatchesFit, State.ParamsFit, State.MemoryFits,
    State.NoticesDistinct, State.StagingFits, State.OfferFormed, State.ArbiterAtRest,
    State.StationsFit, State.AddressesDistinct, State.BlocksAccounted]
  and_intros
  all_goals first | exact ⟨_, rfl⟩ | decide +kernel

/-- A state whose cursor stands on a pinned reply. -/
def reading : State :=
  withCursor (.snapshot 0 0 1) (withSnapshot true (some installed) none State.reset)

/-- The same for the snapshot records, the cursor and the replies, with a cursor on a pinned reply. -/
theorem test_witness_snapshots_cursor_replies :
    reading.SnapshotsFit ∧ reading.CursorFits ∧ reading.RepliesFit ∧
      ∃ t, step reading = .next t := by
  refine ⟨?_, ?_, ⟨?_, ?_, ?_, ?_, installed, ?_⟩, _, rfl⟩
  · simp only [State.SnapshotsFit, Snapshot.Fits]; decide +kernel
  · show (reading.snapshot 0).pinned = true ∧ reading.cursorChain ≠ []
    decide +kernel
  · exact fun t h => nomatch h
  · exact fun r h => nomatch h
  · simp only [Installed.ChainFits]; decide +kernel
  · simp only [Installed.ChainFits]; decide +kernel
  · decide +kernel

end Sys2Proof.Tests
end

/-! PROOF. The judgement of a reply frame: when a CONTROL byte and a LENGTH fit the command (R25,
R26), what the judgement answers at each of its steps (R30), and the statement assembled from them. -/

namespace Sys2Proof.Machine

/-! ## The kind of a reply (R30 step 5) -/

/-- The codes of section 2.4 name their kinds, and no other code names one. -/
theorem replyKindOf_eq_some_iff (c : BitVec 4) (k : ReplyKind) :
    replyKindOf c = some k ↔ c = k.code := by
  constructor
  · intro h
    unfold replyKindOf at h
    split_ifs at h with h8 h9 h10 h11 h12 <;> obtain rfl := Option.some.inj h <;> assumption
  · rintro rfl
    cases k <;> rfl

/-- The kinds R25 names for each command. -/
def CommandKind.Expected (cmd : CommandKind) (k : ReplyKind) : Prop :=
  match cmd with
  | .poll | .read => k = .data ∨ k = .nak ∨ k = .busy
  | .write => k = .ack ∨ k = .nak ∨ k = .busy
  | .probe => k = .ident
  | .bcast | .timesync => False

theorem CommandKind.expects_iff (cmd : CommandKind) (k : ReplyKind) :
    cmd.expects k = true ↔ cmd.Expected k := by
  cases cmd <;> cases k <;> simp [CommandKind.expects, CommandKind.Expected]

/-- The LENGTH range R26 gives each kind. -/
def ReplyKind.InRange (k : ReplyKind) (n : Nat) : Prop :=
  match k with
  | .data => n ≤ 96
  | .ack | .busy => n = 0
  | .nak => 1 ≤ n ∧ n ≤ 96
  | .ident => 2 ≤ n ∧ n ≤ 96

theorem ReplyKind.allows_iff (k : ReplyKind) (n : Nat) : k.allows n = true ↔ k.InRange n := by
  cases k <;> exact decide_eq_true_iff

/-- A reply of this kind fits the command: no part of R30 step 5 applies. -/
def FitsCommand (cmd : CommandKind) (control : Byte) (n : Nat) (k : ReplyKind) : Prop :=
  control.extractLsb' 5 3 = 1#3 ∧ control.extractLsb' 0 4 = k.code ∧ cmd.Expected k ∧ k.InRange n

theorem fittingKind_eq_some_iff (cmd : CommandKind) (control : Byte) (n : Nat) (k : ReplyKind) :
    fittingKind cmd control n = some k ↔ FitsCommand cmd control n k := by
  unfold fittingKind FitsCommand
  rw [← replyKindOf_eq_some_iff, ← CommandKind.expects_iff, ← ReplyKind.allows_iff]
  by_cases hdir : control.extractLsb' 5 3 = 1#3
  · cases hcode : replyKindOf (control.extractLsb' 0 4) with
    | none => simp [hdir]
    | some j =>
      simp only [hdir, if_true, Option.ite_none_right_eq_some, Bool.and_eq_true,
        Option.some.injEq, true_and]
      constructor
      · rintro ⟨hok, rfl⟩
        exact ⟨rfl, hok⟩
      · rintro ⟨rfl, hok⟩
        exact ⟨hok, rfl⟩
  · simp [hdir]

theorem fittingKind_eq_none_iff (cmd : CommandKind) (control : Byte) (n : Nat) :
    fittingKind cmd control n = none ↔ ∀ k, ¬FitsCommand cmd control n k := by
  simp only [Option.eq_none_iff_forall_ne_some, ne_eq, fittingKind_eq_some_iff]

/-! ## The steps of the judgement (R30) -/

/-- Steps 1, 3 and 4 pass: no mark, the check agrees, the reply comes from the target. -/
structure State.SoundReply (s : State) (high : Byte) : Prop where
  noMark : s.le.attempt.markCause = none
  check : high ++ s.le.attempt.checkLow = s.le.attempt.replyCheck
  address : s.le.attempt.replyAddress = s.le.attempt.address

section
variable {s : State} {high : Byte} (x : Transaction)

theorem State.judge_of_mark {c : Cause} (hmark : s.le.attempt.markCause = some c) :
    s.judge x high = .corrupt c := by
  simp only [State.judge, hmark]

theorem State.judge_of_check (hmark : s.le.attempt.markCause = none)
    (hcheck : high ++ s.le.attempt.checkLow ≠ s.le.attempt.replyCheck) :
    s.judge x high = .corrupt .check := by
  simp only [State.judge, hmark, if_pos hcheck]

theorem State.judge_of_address (hmark : s.le.attempt.markCause = none)
    (hcheck : high ++ s.le.attempt.checkLow = s.le.attempt.replyCheck)
    (haddr : s.le.attempt.replyAddress ≠ s.le.attempt.address) :
    s.judge x high = .wrongStation := by
  simp only [State.judge, hmark, if_neg (not_not_intro hcheck), if_pos haddr]

theorem State.SoundReply.judge_of_kind (h : s.SoundReply high)
    (hkind : ∀ k,
      ¬FitsCommand x.kind s.le.attempt.replyControl s.le.attempt.replyLength.toNat k) :
    s.judge x high = .corrupt .kind := by
  simp only [State.judge, h.noMark, if_neg (not_not_intro h.check),
    if_neg (not_not_intro h.address), (fittingKind_eq_none_iff _ _ _).mpr hkind]

variable {k : ReplyKind}

/-- A sound frame of a fitting kind comes to the size: steps 6 and 7. -/
theorem State.SoundReply.judge_of_fits (h : s.SoundReply high)
    (hfits : FitsCommand x.kind s.le.attempt.replyControl s.le.attempt.replyLength.toNat k) :
    s.judge x high =
      if Config.blockBytes * x.reservation.length < s.le.attempt.replyLength.toNat then
        .overlength k
      else
        .reply k (s.le.attempt.replyLength.setWidth 7) (s.le.attempt.replyControl.getLsbD 4)
          (s.fs.mem.chainByte x.reservation 0) := by
  simp only [State.judge, h.noMark, if_neg (not_not_intro h.check),
    if_neg (not_not_intro h.address), (fittingKind_eq_some_iff _ _ _ _).mpr hfits]

theorem State.SoundReply.judge_of_size (h : s.SoundReply high)
    (hfits : FitsCommand x.kind s.le.attempt.replyControl s.le.attempt.replyLength.toNat k)
    (hsize : Config.blockBytes * x.reservation.length < s.le.attempt.replyLength.toNat) :
    s.judge x high = .overlength k := by
  rw [h.judge_of_fits x hfits, if_pos hsize]

theorem State.SoundReply.judge_of_wellFormed (h : s.SoundReply high)
    (hfits : FitsCommand x.kind s.le.attempt.replyControl s.le.attempt.replyLength.toNat k)
    (hsize : s.le.attempt.replyLength.toNat ≤ Config.blockBytes * x.reservation.length) :
    s.judge x high =
      .reply k (s.le.attempt.replyLength.setWidth 7) (s.le.attempt.replyControl.getLsbD 4)
        (s.fs.mem.chainByte x.reservation 0) := by
  rw [h.judge_of_fits x hfits, if_neg hsize.not_gt]
end

/-- Settles O41: one lemma per step of R30, the steps exclusive by their hypotheses. -/
theorem replyJudgement : Obligations.ReplyJudgement := by
  unfold Obligations.ReplyJudgement
  intro s x high a n control fits
  refine ⟨?mark, ?check, ?address, ?kind, ?size, ?wellFormed⟩
  case mark => exact fun _ hmark => State.judge_of_mark x hmark
  case check => exact State.judge_of_check x
  case address => exact State.judge_of_address x
  case kind =>
    intro hmark hcheck haddr hkind
    exact State.SoundReply.judge_of_kind x ⟨hmark, hcheck, haddr⟩ hkind
  case size =>
    intro k hmark hcheck haddr hfits hsize
    exact State.SoundReply.judge_of_size x ⟨hmark, hcheck, haddr⟩ hfits hsize
  case wellFormed =>
    intro k hmark hcheck haddr hfits hsize
    exact State.SoundReply.judge_of_wellFormed x ⟨hmark, hcheck, haddr⟩ hfits hsize

end Sys2Proof.Machine

/-! PROOF. LINE_START: an offer already formed is kept as it stands (R98, R100), so that a settling
whose arbiter may not act changes nothing (R109); the command state by state (R58), and the statement
assembled from them. -/

namespace Sys2Proof.Machine

/-! ## An offer already formed (R98, R100) -/

/-- In the walk there is an offer exactly where the pointer stands on a slot that qualifies. -/
theorem State.offer_isSome_walking (s : State) (hcu : s.cu.state = .walking) :
    s.offer.isSome = true ↔
      s.cu.pointer < s.cu.activeBank.length.toNat ∧ s.slotQualifies s.cu.pointer = true := by
  simp only [State.offer, hcu]
  split_ifs with h
  · obtain ⟨hlt, hq⟩ : s.cu.pointer < s.cu.activeBank.length.toNat ∧
        s.slotQualifies s.cu.pointer = true := by simpa using h
    cases hslot : s.cu.activeBank.slots[s.cu.pointer]? with
    | none => simp [State.slotQualifies, hslot] at hq
    | some x => simp [hlt, hq]
  · simpa using h

/-- In the probe phase there is an offer exactly where the position stands on an entry that
qualifies. -/
theorem State.offer_isSome_probePhase (s : State) (hcu : s.cu.state = .probePhase) :
    s.offer.isSome = true ↔ s.probeQualifies s.cu.probePos = true := by
  simp only [State.offer, hcu]
  split_ifs with h
  · cases hentry : s.cu.probeList[s.cu.probePos]? with
    | none => simp [State.probeQualifies, hentry] at h
    | some i => simp [h]
  · simpa using h

/-- A position that qualifies lies within the probe list. -/
theorem State.probeQualifies_lt (s : State) (n : Nat) (h : s.probeQualifies n = true) :
    n < s.cu.probeList.length := by
  by_contra hge
  simp [State.probeQualifies, List.getElem?_eq_none (not_lt.mp hge)] at h

/-- Where the offer is formed, forming it again changes nothing. -/
theorem State.OfferFormed.formOffer_eq {s : State} (h : s.OfferFormed) : s.formOffer = s := by
  cases hcu : s.cu.state with
  | halted | waiting => simp only [State.formOffer, Config.cyclePasses, State.formOfferIn, hcu]
  | walking =>
    obtain ⟨hlt, hq⟩ := (s.offer_isSome_walking hcu).mp (h (.inl hcu))
    simp only [State.formOffer, Config.cyclePasses, State.formOfferIn, hcu, skipTo_here _ _ _ hq,
      if_pos hlt]
    rw [← hcu]
  | probePhase =>
    have hq := (s.offer_isSome_probePhase hcu).mp (h (.inr hcu))
    have hlt := s.probeQualifies_lt _ hq
    simp only [State.formOffer, Config.cyclePasses, State.formOfferIn, hcu, skipTo_here _ _ _ hq,
      if_pos hlt]
    rw [← hcu]

/-- A settling forms the offer and then lets the arbiter choose: with the offer formed and an arbiter
that does not act, neither has anything to do (R98, R100, R109). -/
theorem State.OfferFormed.settle_eq_self {s : State} (h : s.OfferFormed)
    (hacts : s.arbiterActs = false) : s.settle = s := by
  simp only [State.settle, h.formOffer_eq, arbitrate_idle _ s hacts]

/-- The arbiter does not act while the monitor is ACTIVE (R109). -/
theorem State.arbiterActs_of_active (s : State) (h : s.li.monitor = .active) :
    s.arbiterActs = false := by
  simp [State.arbiterActs, h]

/-! ## The command state by state (R58) -/

theorem lineStart_of_stopped (s : State) (h : s.le.state = .stopped) :
    lineStart s = (({ s with le := { s.le with state := .idle } } : State).settle, .done) :=
  if_pos h

theorem lineStart_of_not_stopped (s : State) (h : s.le.state ≠ .stopped) :
    lineStart s = (s, .refusedState) :=
  if_neg h

/-- A LINE_START that is taken answers what the command's operation gives (R179). -/
theorem exec_lineStart_taken (s : State) (h : s.Taken) :
    exec .lineStart s = .next ((lineStart s).1.answer 0x10 (lineStart s).2) := by
  rw [← hostCommand_taken 0x10 lineStart s h]
  rfl

end Sys2Proof.Machine

namespace Sys2Proof.Proofs
open Sys2Proof.Machine

/-- Settles O8, by the engine's state; with the monitor ACTIVE the settling changes nothing, for the
offer does not depend on the engine's state. -/
theorem lineStart : Obligations.LineStart := by
  unfold Obligations.LineStart
  intro s htaken
  have hidle (hstopped : s.le.state = .stopped) :
      exec .lineStart s =
        .next (({ s with le := { s.le with state := .idle } } : State).settle.answer 0x10 .done) := by
    rw [exec_lineStart_taken s htaken, lineStart_of_stopped s hstopped]
  refine ⟨hidle, ?active, ?refused⟩
  case active =>
    intro hstopped hformed hactive
    have hformed' : ({ s with le := { s.le with state := .idle } } : State).OfferFormed := hformed
    rw [hidle hstopped, hformed'.settle_eq_self (State.arbiterActs_of_active _ hactive)]
  case refused =>
    intro hstate
    rw [exec_lineStart_taken s htaken, lineStart_of_not_stopped s hstate]

end Sys2Proof.Proofs

/-! PROOF. The change queue: a notice is added at the tail or merged where it stands (R85, R86), CHG_POP
removes the head (R87), and the statement assembled from them. -/

namespace Sys2Proof.Machine

/-! ## Making a notice (R85, R86) -/

section
variable {q q1 q2 : List Notice} {i : Fin 32} (old new : StationState) (stamp : Stamp)

/-- With no notice for the station, the change is a new notice at the tail (R85). -/
theorem notedIn_of_absent (h : ∀ n ∈ q, n.station ≠ i) :
    notedIn q i old new stamp =
      q ++ [{ station := i, firstOld := old, latestNew := new, count := 1, stamp := stamp }] := by
  have hnone : ¬(q.any fun n => decide (n.station = i)) = true := by simpa using h
  exact if_neg hnone

/-- With a notice for the station, the change is counted in it and every other notice is kept (R86). -/
theorem notedIn_of_present (h : ∃ n ∈ q, n.station = i) :
    notedIn q i old new stamp = q.map fun n => if n.station = i then n.again new stamp else n := by
  have hsome : (q.any fun n => decide (n.station = i)) = true := by simpa using h
  exact if_pos hsome

/-- Merging leaves the notices of other stations as they are. -/
theorem map_again_of_absent (h : ∀ n ∈ q, n.station ≠ i) :
    (q.map fun n => if n.station = i then n.again new stamp else n) = q := by
  rw [List.map_congr_left fun n hn => if_neg (h n hn), List.map_id']

/-- A change is merged into the station's notice, which keeps its place in the queue (R86). -/
theorem notedIn_append_cons {n : Notice} (h1 : ∀ m ∈ q1, m.station ≠ n.station)
    (h2 : ∀ m ∈ q2, m.station ≠ n.station) :
    notedIn (q1 ++ n :: q2) n.station old new stamp = q1 ++ n.again new stamp :: q2 := by
  rw [notedIn_of_present _ _ _ ⟨n, by simp, rfl⟩, List.map_append, List.map_cons, if_pos rfl,
    map_again_of_absent _ _ h1, map_again_of_absent _ _ h2]
end

/-- In a queue with one notice per station, the notices around one are of other stations. -/
theorem station_ne_of_nodup {q1 q2 : List Notice} {n : Notice}
    (h : ((q1 ++ n :: q2).map Notice.station).Nodup) :
    (∀ m ∈ q1, m.station ≠ n.station) ∧ ∀ m ∈ q2, m.station ≠ n.station := by
  rw [List.map_append, List.map_cons, List.nodup_middle, List.nodup_cons] at h
  obtain ⟨hother, -⟩ := h
  have hne (m : Notice) (hm : m ∈ q1 ∨ m ∈ q2) : m.station ≠ n.station := by
    intro heq
    rw [← heq, ← List.map_append] at hother
    apply hother
    exact List.mem_map_of_mem (List.mem_append.mpr hm)
  exact ⟨fun m hm => hne m (.inl hm), fun m hm => hne m (.inr hm)⟩

/-! ## Removing the head (R87) -/

theorem chgPop_of_nil (s : State) (h : s.st.changes = []) : chgPop s = (s, .empty) := by
  simp only [chgPop, h]

theorem chgPop_of_cons (s : State) {n : Notice} {q : List Notice} (h : s.st.changes = n :: q) :
    chgPop s = ({ s with st := { s.st with changes := q } }, .done) := by
  simp only [chgPop, h]

/-- A CHG_POP that is taken answers what the command's operation gives (R179). -/
theorem exec_chgPop_taken (s : State) (h : s.Taken) :
    exec .chgPop s = .next ((chgPop s).1.answer 0x32 (chgPop s).2) := by
  rw [← hostCommand_taken 0x32 chgPop s h]
  rfl

end Sys2Proof.Machine

namespace Sys2Proof.Proofs
open Sys2Proof.Machine

/-- Settles O15: a change by whether its station has a notice already, and CHG_POP by whether the queue
is empty. -/
theorem changeNotices : Obligations.ChangeNotices := by
  unfold Obligations.ChangeNotices
  refine ⟨?first, ?merged, ?pop⟩
  case first =>
    intro q i old new stamp habsent
    exact notedIn_of_absent old new stamp habsent
  case merged =>
    intro q1 q2 n old new stamp hnodup
    obtain ⟨hbefore, hafter⟩ := station_ne_of_nodup hnodup
    exact notedIn_append_cons old new stamp hbefore hafter
  case pop =>
    intro s htaken
    rw [exec_chgPop_taken s htaken]
    constructor
    · intro hempty
      rw [chgPop_of_nil s hempty]
    · intro n q hcons
      rw [chgPop_of_cons s hcons]

end Sys2Proof.Proofs

/-! PROOF. The candidate: what each position of the order yields (R110), the retry limit and the
blocks a candidate needs (R37, R115), and the statement assembled from them. -/

namespace Sys2Proof.Machine

/-! ## Position 1: the deferred list (R52, R110) -/

/-- Entries of the deferred list carry distinct ids: an id finds its own entry. -/
theorem State.DeferredWf.find?_id {s : State} (h : s.DeferredWf) {d : Deferred}
    (hd : d ∈ s.le.deferred) : (s.le.deferred.find? fun e => decide (e.id = d.id)) = some d := by
  obtain ⟨-, hids, -⟩ := h
  have hfound : (s.le.deferred.find? fun e => decide (e.id = d.id)).isSome = true :=
    List.find?_isSome.mpr ⟨d, hd, decide_eq_true rfl⟩
  obtain ⟨e, he⟩ := Option.isSome_iff_exists.mp hfound
  have hid : e.id = d.id := by simpa using List.find?_some he
  rw [he, List.inj_on_of_nodup_map hids (List.mem_of_find?_eq_some he) hd hid]

theorem State.oldestExpired_of_nil (s : State) (h : s.le.expired = []) : s.oldestExpired = none := by
  simp only [State.oldestExpired, h]

/-- The oldest expired entry is the one the head of the expiry order names. -/
theorem State.DeferredWf.oldestExpired_of_cons {s : State} (hwf : s.DeferredWf) {d : Deferred}
    {rest : List (Fin 4)} (h : s.le.expired = d.id :: rest) (hd : d ∈ s.le.deferred) :
    s.oldestExpired = some d := by
  simp only [State.oldestExpired, h, hwf.find?_id hd]

/-! ## Positions 3 to 5: the normal queue and the offer (R110) -/

theorem State.normalHead_of_nil (s : State) (h : s.ru.normal = []) : s.normalHead = none := by
  simp only [State.normalHead, h]

theorem State.normalHead_of_cons (s : State) {r : Request} {rest : List Request}
    (h : s.ru.normal = r :: rest) : s.normalHead = some (.normal r rest) := by
  simp only [State.normalHead, h]

theorem State.shareReached_iff (s : State) :
    s.shareReached = true ↔
      s.le.params.share.toNat ≠ 0 ∧ s.le.params.share.toNat ≤ s.pollRun.toNat := by
  simp [State.shareReached, BitVec.toNat_eq]

/-- Position 3 is passed over: its queue is empty, the share is 0, or the counter is below it. -/
theorem State.not_shareReached_head (s : State)
    (h : s.ru.normal = [] ∨ s.le.params.share.toNat = 0 ∨
      s.pollRun.toNat < s.le.params.share.toNat) :
    ¬(s.shareReached && s.normalHead.isSome) = true := by
  rw [Bool.and_eq_true, State.shareReached_iff]
  rintro ⟨⟨hshare, hreached⟩, hhead⟩
  rcases h with hempty | hzero | hbelow
  · simp [s.normalHead_of_nil hempty] at hhead
  · exact hshare hzero
  · exact hbelow.not_ge hreached

/-- Position 3 yields the normal head. -/
theorem State.normalOrOffer_of_share (s : State) {r : Request} {rest : List Request}
    (h : s.ru.normal = r :: rest) (hshare : s.le.params.share.toNat ≠ 0)
    (hreached : s.le.params.share.toNat ≤ s.pollRun.toNat) :
    s.normalOrOffer = some (.normal r rest) := by
  simp [State.normalOrOffer, s.shareReached_iff.mpr ⟨hshare, hreached⟩, s.normalHead_of_cons h]

/-- Position 4 yields the offer where position 3 is passed over. -/
theorem State.normalOrOffer_of_offer (s : State) {o : Offer} (h : s.offer = some o)
    (hpassed : s.ru.normal = [] ∨ s.le.params.share.toNat = 0 ∨
      s.pollRun.toNat < s.le.params.share.toNat) :
    s.normalOrOffer = some (.offer o) := by
  simp only [State.normalOrOffer, if_neg (s.not_shareReached_head hpassed), h]

/-- With no offer, positions 3 and 5 together yield the normal head, if there is one. -/
theorem State.normalOrOffer_of_noOffer (s : State) (h : s.offer = none) :
    s.normalOrOffer = s.normalHead := by
  simp only [State.normalOrOffer, h, ite_self]

/-! ## The choice (R110) -/

theorem State.candidate_of_oldestExpired (s : State) {d : Deferred} (h : s.oldestExpired = some d) :
    s.candidate = some (.deferred d) := by
  simp only [State.candidate, h]

theorem State.candidate_of_urgent (s : State) {r : Request} {rest : List Request}
    (hexp : s.le.expired = []) (h : s.ru.urgent = r :: rest) :
    s.candidate = some (.urgent r rest) := by
  simp only [State.candidate, s.oldestExpired_of_nil hexp, h]

/-- Positions 1 and 2 are passed over. -/
theorem State.candidate_eq_normalOrOffer (s : State) (hexp : s.le.expired = [])
    (hurgent : s.ru.urgent = []) : s.candidate = s.normalOrOffer := by
  simp only [State.candidate, s.oldestExpired_of_nil hexp, hurgent]

/-- With no candidate BUFFER_WAIT is false (R110, R117). -/
theorem State.bufferWait_of_noCandidate (s : State) (h : s.candidate = none) :
    s.bufferWait = false := by
  simp only [State.bufferWait, h, Bool.and_false]

/-! ## The retry limit and the reservation (R37, R115) -/

theorem State.retryLimitFor_override (s : State) (target : Option (Fin 32)) (n : BitVec 3) :
    s.retryLimitFor target (some n) = n := rfl

theorem State.retryLimitFor_station (s : State) (i : Fin 32) :
    s.retryLimitFor (some i) none = (s.station i).retryLimit := rfl

theorem State.retryLimitFor_none (s : State) : s.retryLimitFor none none = 0 := rfl

theorem State.blocksNeeded_none (s : State) (blocks : Option (BitVec 2)) :
    s.blocksNeeded none blocks = 0 := rfl

theorem State.blocksNeeded_override (s : State) (i : Fin 32) (b : BitVec 2) :
    s.blocksNeeded (some i) (some b) = b.toNat := rfl

theorem State.blocksNeeded_station (s : State) (i : Fin 32) :
    s.blocksNeeded (some i) none = (s.station i).replyBlocks.toNat := rfl

end Sys2Proof.Machine

namespace Sys2Proof.Proofs
open Sys2Proof.Machine

/-- Settles O48: the order position by position, then the transaction and the reservation source by
source, told apart by the target and the overrides. -/
theorem arbiterOrder : Obligations.ArbiterOrder := by
  unfold Obligations.ArbiterOrder
  constructor
  · intro s share
    refine ⟨?deferred, ?urgent, ?share, ?offer, ?normal, ?none⟩
    case deferred =>
      rintro i rest d hwf hexp hd rfl
      exact s.candidate_of_oldestExpired (hwf.oldestExpired_of_cons hexp hd)
    case urgent => exact fun r rest => s.candidate_of_urgent
    case share =>
      intro r rest hexp hurgent hnormal hshare hreached
      rw [s.candidate_eq_normalOrOffer hexp hurgent,
        s.normalOrOffer_of_share hnormal hshare hreached]
    case offer =>
      intro o hexp hurgent hoffer hpassed
      rw [s.candidate_eq_normalOrOffer hexp hurgent, s.normalOrOffer_of_offer hoffer hpassed]
    case normal =>
      intro r rest hexp hurgent hnormal hoffer
      rw [s.candidate_eq_normalOrOffer hexp hurgent, s.normalOrOffer_of_noOffer hoffer,
        s.normalHead_of_cons hnormal]
    case none =>
      intro hexp hurgent hnormal hoffer
      have hnone : s.candidate = none := by
        rw [s.candidate_eq_normalOrOffer hexp hurgent, s.normalOrOffer_of_noOffer hoffer,
          s.normalHead_of_nil hnormal]
      exact ⟨hnone, s.bufferWait_of_noCandidate hnone⟩
  · intro s chain
    refine ⟨?request, ?slot, ?probe, ?deferred⟩
    case request =>
      intro r rest x need
      have hlimit : s.retryLimitFor r.station r.retry = x.retryLimit := by
        simp only [x]
        cases r.retry with
        | some n => exact s.retryLimitFor_override r.station n
        | none =>
          cases r.station with
          | some i => exact s.retryLimitFor_station i
          | none => exact s.retryLimitFor_none
      have htxn : s.requestTransaction r chain = x := by
        rw [State.requestTransaction, hlimit]
      have hneed : s.blocksNeeded r.station r.blocks = need := by
        simp only [need]
        cases r.station with
        | none => exact s.blocksNeeded_none r.blocks
        | some i =>
          cases r.blocks with
          | some b => exact s.blocksNeeded_override i b
          | none => exact s.blocksNeeded_station i
      exact ⟨htxn, htxn, hneed, hneed⟩
    case slot => exact fun y => ⟨rfl, s.blocksNeeded_station y.station⟩
    case probe => exact fun i => ⟨rfl, s.blocksNeeded_station i⟩
    case deferred =>
      intro d
      refine ⟨rfl, ?_, ?_⟩
      · intro htarget
        simp only [Candidate.need, htarget, State.blocksNeeded_none]
      · intro i htarget
        constructor
        · intro b hblocks
          simp only [Candidate.need, htarget, hblocks, State.blocksNeeded_override]
        · intro hblocks
          simp only [Candidate.need, htarget, hblocks, State.blocksNeeded_station]

end Sys2Proof.Proofs

/-! PROOF. RQ_CLEAR: the state the command's operation leaves (R123). -/

namespace Sys2Proof.Machine

theorem rqClear_eq (s : State) :
    rqClear s =
      ({ s with
        ru := { s.ru with staging := .cleared }
        fs := { s.fs with cursor := .staging } }, .done) := rfl

/-- An RQ_CLEAR that is taken answers what the command's operation gives (R179). -/
theorem exec_rqClear_taken (s : State) (h : s.Taken) :
    exec .rqClear s = .next ((rqClear s).1.answer 0x40 (rqClear s).2) := by
  rw [← hostCommand_taken 0x40 rqClear s h]
  rfl

end Sys2Proof.Machine

namespace Sys2Proof.Proofs
open Sys2Proof.Machine

/-- Settles O17: the command is taken, and its operation writes the staging area and the cursor. -/
theorem rqClear : Obligations.RqClear := by
  unfold Obligations.RqClear
  intro s htaken
  rw [exec_rqClear_taken s htaken, rqClear_eq, Staging.cleared]

end Sys2Proof.Proofs

/-! PROOF. The completion commands: CP_OPEN by the head record's reply (R139), CP_RETIRE by the ring and
the cursor (R140), and the statement assembled from them. -/

namespace Sys2Proof.Machine

/-! ## Opening the head's reply (R139) -/

section
variable (s : State) {r : Record} {rest : List Record}

theorem cpOpen_of_nil (h : s.cq.ring = []) : cpOpen s = (s, .empty) := by
  simp only [cpOpen, h]

theorem cpOpen_of_noReply (h : s.cq.ring = r :: rest) (hchain : r.chain = []) :
    cpOpen s = (s, .empty) := by
  simp only [cpOpen, h, if_pos hchain]

/-- The cursor stands at position 0 of the head's chain, with the whole reply remaining (R139). -/
theorem cpOpen_of_reply {n : BitVec 7} (h : s.cq.ring = r :: rest) (hchain : r.chain ≠ [])
    (hlength : r.replyLength = some n) :
    cpOpen s = ({ s with fs := { s.fs with cursor := .completion 0 n } }, .done) := by
  simp only [cpOpen, h, if_neg hchain, hlength, Option.getD_some, State.setCursor]
end

/-- A CP_OPEN that is taken answers what the command's operation gives (R179). -/
theorem exec_cpOpen_taken (s : State) (h : s.Taken) :
    exec .cpOpen s = .next ((cpOpen s).1.answer 0x50 (cpOpen s).2) := by
  rw [← hostCommand_taken 0x50 cpOpen s h]
  rfl

/-! ## Retiring the head (R140) -/

/-- Where the cursor stands once the head's chain is freed: off that chain (R140). -/
def Cursor.leaveCompletion : Cursor → Cursor
  | .completion _ _ => .none
  | c => c

theorem retireHead_eq (r : Record) (rest : List Record) (s : State) :
    retireHead r rest s =
      { s with
        cq := { s.cq with ring := rest }
        fs := { s.fs with
          free := s.fs.free ++ r.chain, cursor := s.fs.cursor.leaveCompletion } } := by
  cases hcursor : s.fs.cursor with
  | completion position remaining =>
    simp only [retireHead, hcursor, Cursor.leaveCompletion, State.setCursor, State.freeChain]
  | staging | snapshot | none =>
    simp only [retireHead, hcursor, Cursor.leaveCompletion, State.freeChain]

theorem cpRetire_of_nil (s : State) (h : s.cq.ring = []) : cpRetire s = (s, .empty) := by
  simp only [cpRetire, h]

theorem cpRetire_of_cons (s : State) {r : Record} {rest : List Record}
    (h : s.cq.ring = r :: rest) : cpRetire s = ((retireHead r rest s).settle, .done) := by
  simp only [cpRetire, h]

/-- A CP_RETIRE that is taken answers what the command's operation gives (R179). -/
theorem exec_cpRetire_taken (s : State) (h : s.Taken) :
    exec .cpRetire s = .next ((cpRetire s).1.answer 0x51 (cpRetire s).2) := by
  rw [← hostCommand_taken 0x51 cpRetire s h]
  rfl

end Sys2Proof.Machine

namespace Sys2Proof.Proofs
open Sys2Proof.Machine

/-- Settles O22: CP_OPEN by whether the ring has a head with a reply chain, CP_RETIRE by whether the ring
is empty. -/
theorem completionCommands : Obligations.CompletionCommands := by
  unfold Obligations.CompletionCommands
  constructor
  · intro s htaken
    rw [exec_cpOpen_taken s htaken]
    refine ⟨?emptyRing, ?noReply, ?reply⟩
    case emptyRing =>
      intro hempty
      rw [cpOpen_of_nil s hempty]
    case noReply =>
      intro r rest hring hchain
      rw [cpOpen_of_noReply s hring hchain]
    case reply =>
      intro r rest n hring hchain hlength
      rw [cpOpen_of_reply s hring hchain hlength]
  · intro s htaken
    rw [exec_cpRetire_taken s htaken]
    constructor
    · intro hempty
      rw [cpRetire_of_nil s hempty]
    · intro r rest hring
      rw [cpRetire_of_cons s hring, retireHead_eq]
      rfl

end Sys2Proof.Proofs

/-! PROOF. The data port: a write appends to the staging payload (R157), a read takes the byte of
the chain under the cursor and moves on (R158), all else is misuse (R159); DREM (R160), and the
statement assembled from them. -/

namespace Sys2Proof.Machine

/-- COMMAND_ERROR is E10: its latch is set and nothing else changes (R167). -/
theorem State.raise_commandError (s : State) :
    s.raise .commandError =
      { s with eu := { s.eu with latches := s.eu.latches ||| 0x400#12 } } := rfl

/-! ## Writing the data port (R157, R159) -/

section
variable (s : State) (v : Byte)

/-- While the cursor is STAGING and there is room, the byte is appended (R157). -/
theorem dportWrite_of_room (hcursor : s.fs.cursor = .staging)
    (hroom : s.ru.staging.payload.length < 96) :
    dportWrite v s =
      { s with
        ru := { s.ru with
          staging := { s.ru.staging with payload := s.ru.staging.payload ++ [v] } } } := by
  have hstaged : s.stagedLength < 96 := hroom
  simp only [dportWrite, hcursor, if_pos hstaged]

/-- With another cursor, or a full payload, the byte is discarded as misuse (R159). -/
theorem dportWrite_of_misuse
    (h : s.fs.cursor ≠ .staging ∨ 96 ≤ s.ru.staging.payload.length) :
    dportWrite v s = s.raise .commandError := by
  cases hcursor : s.fs.cursor with
  | staging =>
    have hfull : 96 ≤ s.stagedLength := h.resolve_left (not_not_intro hcursor)
    simp only [dportWrite, hcursor, if_neg hfull.not_gt]
  | completion | snapshot | none => simp only [dportWrite, hcursor]
end

/-- A write of DPORT that is taken hands the low byte of the word to the data port (R157). -/
theorem exec_dportWrite_taken (s : State) (v : Word) (h : s.Taken) :
    exec (.dportWrite v) s = .next (dportWrite (v.extractLsb' 0 8) s) :=
  congrArg Host.Outcome.next (hostWrite_taken (registerWrite 3 v) s h)

/-! ## Reading the data port (R158, R159) -/

/-- Byte k of a chain stands in its block k div 32, at offset k mod 32 (R158). -/
theorem Memory.chainByte_of_block (m : Memory) {chain : Chain} {k : Nat} {b : Block}
    (h : chain[k / 32]? = some b) : m.chainByte chain k = m.read (b.val * 32 + k % 32) := by
  have haddress : chainAddress chain k = some (b.val * 32 + k % 32) := by
    simp only [chainAddress, Config.blockBytes, h, Option.map_some]
  simp only [Memory.chainByte, haddress]

section
variable (s : State) {i : Fin 32} {p r : BitVec 7} {b : Block}

/-- On the head record's reply chain, the byte at the position is read and the cursor moves on
(R158). -/
theorem dportRead_of_completion {x : Record} {rest : List Record}
    (hcursor : s.fs.cursor = .completion p r) (hleft : r ≠ 0) (hring : s.cq.ring = x :: rest)
    (hblock : x.chain[p.toNat / 32]? = some b) :
    dportRead s =
      ((s.fs.mem.read (b.val * 32 + p.toNat % 32)).setWidth 16,
        s.setCursor (.completion (p + 1) (r - 1))) := by
  have hchain : s.cursorChain = x.chain := by simp only [State.cursorChain, hcursor, hring]
  simp only [dportRead, hcursor, if_neg hleft, hchain, Memory.chainByte_of_block _ hblock]

/-- On a station's current chain, the byte at the position is read and the cursor moves on
(R158). -/
theorem dportRead_of_snapshot {x : Installed}
    (hcursor : s.fs.cursor = .snapshot i p r) (hleft : r ≠ 0)
    (hcurrent : (s.snapshot i).current = some x) (hblock : x.chain[p.toNat / 32]? = some b) :
    dportRead s =
      ((s.fs.mem.read (b.val * 32 + p.toNat % 32)).setWidth 16,
        s.setCursor (.snapshot i (p + 1) (r - 1))) := by
  have hchain : s.cursorChain = x.chain := by
    simp only [State.cursorChain, hcursor, hcurrent, replyChain]
  simp only [dportRead, hcursor, if_neg hleft, hchain, Memory.chainByte_of_block _ hblock]

/-- With no reply under the cursor, or with nothing of it remaining, a read gives 0 as misuse
(R159). -/
theorem dportRead_of_misuse
    (h : s.fs.cursor = .staging ∨ s.fs.cursor = .none ∨ (∃ p, s.fs.cursor = .completion p 0) ∨
      ∃ i p, s.fs.cursor = .snapshot i p 0) :
    dportRead s = (0, s.raise .commandError) := by
  rcases h with hstaging | hnone | ⟨p, hcompletion⟩ | ⟨i, p, hsnapshot⟩
  · simp only [dportRead, hstaging]
  · simp only [dportRead, hnone]
  · simp only [dportRead, hcompletion, if_true]
  · simp only [dportRead, hsnapshot, if_true]
end

/-- A read of DPORT that is taken drives the word that the data port answers (R158). -/
theorem exec_dportRead_taken (s : State) (h : s.Taken) :
    exec .dportRead s =
      .next
        { (dportRead s).2 with
          pins := { (dportRead s).2.pins with dataBus := some (dportRead s).1 } } :=
  congrArg Host.Outcome.next (hostRead_taken (registerRead 3) s h)

/-! ## DREM (R160) -/

/-- A read of DREM shows what the cursor leaves and changes nothing. -/
theorem registerRead_drem (s : State) : registerRead 4 s = (s.drem.setWidth 16, s) := by
  have hplace : place 0 s.drem = s.drem.setWidth 16 := BitVec.shiftLeft_zero _
  rw [← hplace]
  rfl

section
variable (s : State) {i : Fin 32} {p r : BitVec 7}

/-- In STAGING, DREM shows the room left in the payload. -/
theorem State.drem_of_staging (hcursor : s.fs.cursor = .staging) :
    s.drem.setWidth 16 = BitVec.ofNat 16 (96 - s.ru.staging.payload.length) := by
  have hdrem : s.drem = BitVec.ofNat 7 (96 - s.ru.staging.payload.length) := by
    simp only [State.drem, hcursor, State.stagedLength]
  rw [hdrem]
  apply BitVec.eq_of_toNat_eq
  simp only [BitVec.toNat_setWidth, BitVec.toNat_ofNat]
  omega

theorem State.drem_of_completion (hcursor : s.fs.cursor = .completion p r) : s.drem = r := by
  simp only [State.drem, hcursor]

theorem State.drem_of_snapshot (hcursor : s.fs.cursor = .snapshot i p r) : s.drem = r := by
  simp only [State.drem, hcursor]

theorem State.drem_of_none (hcursor : s.fs.cursor = .none) : s.drem = 0 := by
  simp only [State.drem, hcursor]
end

end Sys2Proof.Machine

namespace Sys2Proof.Proofs
open Sys2Proof.Machine

/-- Settles O30: writes by whether there is room in STAGING, reads by the chain under the cursor,
DREM by the cursor. -/
theorem dataPort : Obligations.DataPort := by
  unfold Obligations.DataPort
  refine ⟨?writes, ?reads, ?drem⟩
  case writes =>
    intro s v htaken
    rw [exec_dportWrite_taken s v htaken]
    constructor
    · intro hcursor hroom
      rw [dportWrite_of_room s _ hcursor hroom]
    · intro hmisuse
      rw [dportWrite_of_misuse s _ hmisuse, s.raise_commandError]
  case reads =>
    intro s htaken
    rw [exec_dportRead_taken s htaken]
    refine ⟨?completion, ?snapshot, ?misuse⟩
    case completion =>
      intro p r x rest b hcursor hleft hring hblock
      rw [dportRead_of_completion s hcursor hleft hring hblock]
      rfl
    case snapshot =>
      intro i p r x b hcursor hleft hcurrent hblock
      rw [dportRead_of_snapshot s hcursor hleft hcurrent hblock]
      rfl
    case misuse =>
      intro hmisuse
      rw [dportRead_of_misuse s hmisuse, s.raise_commandError]
  case drem =>
    intro s
    rw [registerRead_drem s]
    refine ⟨?staging, ?completion, ?snapshot, ?none⟩
    case staging =>
      intro hcursor _
      rw [s.drem_of_staging hcursor]
    case completion =>
      intro p r hcursor
      rw [s.drem_of_completion hcursor]
    case snapshot =>
      intro i p r hcursor
      rw [s.drem_of_snapshot hcursor]
    case none =>
      intro hcursor
      rw [s.drem_of_none hcursor]
      rfl

end Sys2Proof.Proofs

/-! PROOF. The snapshot commands: SNAP_PIN and SNAP_UNPIN by the record and the cursor (R153),
SNAP_OPEN by the record (R154), and the statement assembled from them. -/

namespace Sys2Proof.Machine

/-- A station command that is taken, with a station's index as its operand, answers what the
operation on that station gives (R179, R181). -/
theorem hostCommand_station_taken (code : Byte) (op : Fin 32 → CommandOp) (i : Fin 32) (s : State)
    (h : s.Taken) :
    hostCommand code (stationCommand op (BitVec.ofNat 8 i.val)) s =
      (op i s).1.answer code (op i s).2 := by
  rw [hostCommand_taken code _ s h, stationCommand_index]

/-! ## Pinning (R153) -/

section
variable (s : State) {i : Fin 32}

theorem snapPin_of_pinned (hpin : (s.snapshot i).pinned = true) : snapPin i s = (s, .already) := by
  simp only [snapPin, if_pos hpin]

theorem snapPin_of_empty (hpin : (s.snapshot i).pinned = false)
    (hcurrent : (s.snapshot i).current = none) : snapPin i s = (s, .empty) := by
  simp only [snapPin, hpin, hcurrent, Bool.false_eq_true, if_false, Option.isNone_none, if_true]

theorem snapPin_of_current (hpin : (s.snapshot i).pinned = false)
    (hcurrent : (s.snapshot i).current ≠ none) :
    snapPin i s = (s.setSnapshot i { s.snapshot i with pinned := true }, .done) := by
  have hsome : ¬(s.snapshot i).current.isNone = true := by rwa [Option.isNone_iff_eq_none]
  simp only [snapPin, hpin, Bool.false_eq_true, if_false, if_neg hsome]

/-! ## Unpinning (R153) -/

theorem Cursor.onSnapshot_iff (c : Cursor) (i : Fin 32) :
    c.onSnapshot i = true ↔ ∃ p r, c = .snapshot i p r := by
  cases c with
  | snapshot j p r => simp [Cursor.onSnapshot]
  | staging | completion | none => simp [Cursor.onSnapshot]

/-- Where the cursor stands once a station's record is unpinned: off its current chain (R153). -/
def Cursor.leaveSnapshot (i : Fin 32) (c : Cursor) : Cursor := if c.onSnapshot i then .none else c

/-- The first part of unpinning: the cursor leaves the station's chain (R153). -/
theorem setCursor_leaveSnapshot (i : Fin 32) :
    (if s.fs.cursor.onSnapshot i then s.setCursor .none else s) =
      s.setCursor (s.fs.cursor.leaveSnapshot i) := by
  unfold Cursor.leaveSnapshot
  split_ifs <;> rfl

/-- Without a next reply, the current one stays (R153). -/
theorem unpin_of_noNext (hnext : (s.snapshot i).next = none) :
    unpin i s =
      (s.setCursor (s.fs.cursor.leaveSnapshot i)).setSnapshot i
        { s.snapshot i with pinned := false } := by
  simp only [unpin, hnext, setCursor_leaveSnapshot]

/-- A next reply is promoted, and the chain of the reply it replaces is freed (R153). -/
theorem unpin_of_next {n : Installed} (hnext : (s.snapshot i).next = some n) :
    unpin i s =
      ((s.setCursor (s.fs.cursor.leaveSnapshot i)).freeChain
          (replyChain (s.snapshot i).current)).setSnapshot i
        { s.snapshot i with pinned := false, current := some n, next := none } := by
  simp only [unpin, hnext, setCursor_leaveSnapshot]

theorem snapUnpin_of_pinned (hpin : (s.snapshot i).pinned = true) :
    snapUnpin i s = ((unpin i s).settle, .done) := if_pos hpin

theorem snapUnpin_of_unpinned (hpin : (s.snapshot i).pinned = false) :
    snapUnpin i s = (s, .already) := if_neg (by simp [hpin])

/-! ## Opening a snapshot (R154) -/

theorem snapOpen_of_unpinned (hpin : (s.snapshot i).pinned = false) :
    snapOpen i s = (s, .refusedState) := by
  simp only [snapOpen, hpin, Bool.not_false, if_true]

variable {r : Installed}

theorem snapOpen_of_noChain (hpin : (s.snapshot i).pinned = true)
    (hcurrent : (s.snapshot i).current = some r) (hchain : r.chain = []) :
    snapOpen i s = (s, .empty) := by
  simp only [snapOpen, hpin, hcurrent, Bool.not_true, Bool.false_eq_true, if_false, if_pos hchain]

/-- The cursor stands at position 0 of the current chain, with the whole reply remaining (R154). -/
theorem snapOpen_of_chain (hpin : (s.snapshot i).pinned = true)
    (hcurrent : (s.snapshot i).current = some r) (hchain : r.chain ≠ []) :
    snapOpen i s = (s.setCursor (.snapshot i 0 r.length), .done) := by
  simp only [snapOpen, hpin, hcurrent, Bool.not_true, Bool.false_eq_true, if_false, if_neg hchain]
end

/-! ## The rows -/

section
variable (s : State) (i : Fin 32) (h : s.Taken)
include h

theorem exec_snapPin_taken :
    exec (.snapPin (BitVec.ofNat 8 i.val)) s =
      .next ((snapPin i s).1.answer 0x60 (snapPin i s).2) :=
  congrArg Host.Outcome.next (hostCommand_station_taken 0x60 snapPin i s h)

theorem exec_snapUnpin_taken :
    exec (.snapUnpin (BitVec.ofNat 8 i.val)) s =
      .next ((snapUnpin i s).1.answer 0x61 (snapUnpin i s).2) :=
  congrArg Host.Outcome.next (hostCommand_station_taken 0x61 snapUnpin i s h)

theorem exec_snapOpen_taken :
    exec (.snapOpen (BitVec.ofNat 8 i.val)) s =
      .next ((snapOpen i s).1.answer 0x62 (snapOpen i s).2) :=
  congrArg Host.Outcome.next (hostCommand_station_taken 0x62 snapOpen i s h)
end

end Sys2Proof.Machine

namespace Sys2Proof.Proofs
open Sys2Proof.Machine

/-- Settles O23: SNAP_PIN and SNAP_UNPIN by the pin and the two replies of the record, SNAP_OPEN by
the pin and the current chain. -/
theorem snapshotCommands : Obligations.SnapshotCommands := by
  unfold Obligations.SnapshotCommands
  constructor
  · intro s i htaken x operand cursor
    rw [exec_snapPin_taken s i htaken, exec_snapUnpin_taken s i htaken]
    refine ⟨?pinAlready, ?pinEmpty, ?pinDone, ?unpinAlready, ?unpinKeeps, ?unpinPromotes, ?on⟩
    case pinAlready =>
      intro hpin
      rw [snapPin_of_pinned s hpin]
    case pinEmpty =>
      intro hpin hcurrent
      rw [snapPin_of_empty s hpin hcurrent]
    case pinDone =>
      intro hpin hcurrent
      rw [snapPin_of_current s hpin hcurrent]
      rfl
    case unpinAlready =>
      intro hpin
      rw [snapUnpin_of_unpinned s hpin]
    case unpinKeeps =>
      intro hpin hnext
      rw [snapUnpin_of_pinned s hpin, unpin_of_noNext s hnext]
      rfl
    case unpinPromotes =>
      intro n hpin hnext
      rw [snapUnpin_of_pinned s hpin, unpin_of_next s hnext]
      rfl
    case on => exact s.fs.cursor.onSnapshot_iff i
  · intro s i htaken operand
    rw [exec_snapOpen_taken s i htaken]
    refine ⟨?refused, ?noChain, ?opened⟩
    case refused =>
      intro hpin
      rw [snapOpen_of_unpinned s hpin]
    case noChain =>
      intro r hpin hcurrent hchain
      rw [snapOpen_of_noChain s hpin hcurrent hchain]
    case opened =>
      intro r hpin hcurrent hchain
      rw [snapOpen_of_chain s hpin hcurrent hchain]
      rfl

end Sys2Proof.Proofs

/-! PROOF. The moves: the few ways in which a step changes what the blocks, the slots, the transaction and
the replies are accounted by (R127, R144). Every operation of the model is a chain of moves, so that an
invariant is proved move by move. -/

namespace Sys2Proof.Machine

/-! ## What a move may change -/

/-- Nothing changes in the engine's transactions, the queues, the ring, the free list, the snapshots and
the cursor. -/
structure SameAccounts (s t : State) : Prop where
  state : t.le.state = s.le.state
  current : t.le.current = s.le.current
  deferred : t.le.deferred = s.le.deferred
  expired : t.le.expired = s.le.expired
  stopMark : t.le.stopMark = s.le.stopMark
  urgent : t.ru.urgent = s.ru.urgent
  normal : t.ru.normal = s.ru.normal
  queue : t.cq = s.cq
  free : t.fs.free = s.fs.free
  snapshots : t.fs.snapshots = s.fs.snapshots
  cursor : t.fs.cursor = s.fs.cursor

/-- The invariants of a single field are kept: the store's bytes, the latches, the parameters, the
notices, the staging area and the station entries. -/
structure FieldsKept (s t : State) : Prop where
  memory : s.MemoryFits → t.MemoryFits
  latches : s.LatchesFit → t.LatchesFit
  params : s.ParamsFit → t.ParamsFit
  notices : s.NoticesDistinct → t.NoticesDistinct
  staging : s.StagingFits → t.StagingFits
  stations : s.StationsFit → s.AddressesDistinct → t.StationsFit ∧ t.AddressesDistinct

theorem FieldsKept.refl (s : State) : FieldsKept s s := ⟨id, id, id, id, id, fun h k => ⟨h, k⟩⟩

theorem FieldsKept.trans {s t u : State} (h : FieldsKept s t) (k : FieldsKept t u) :
    FieldsKept s u :=
  ⟨k.memory ∘ h.memory, k.latches ∘ h.latches, k.params ∘ h.params, k.notices ∘ h.notices,
    k.staging ∘ h.staging, fun hs ha => (h.stations hs ha).elim k.stations⟩

/-- Where none of the fields they speak of changes, they are kept. -/
theorem FieldsKept.of_same {s t : State} (hmem : t.fs.mem = s.fs.mem)
    (hlatches : t.eu.latches = s.eu.latches) (hparams : t.le.params = s.le.params)
    (hchanges : t.st.changes = s.st.changes)
    (hstaging : t.ru.staging.payload = s.ru.staging.payload)
    (hentries : t.st.entries = s.st.entries) : FieldsKept s t where
  memory h := by rw [State.MemoryFits, hmem]; exact h
  latches h := by rw [State.LatchesFit, hlatches]; exact h
  params h := by rw [State.ParamsFit, hparams]; exact h
  notices h := by rw [State.NoticesDistinct, hchanges]; exact h
  staging h := by rw [State.StagingFits, hstaging]; exact h
  stations hs ha := by
    have hstation (i : Fin 32) : t.station i = s.station i := by rw [State.station, hentries]; rfl
    constructor
    · intro i; rw [hstation]; exact hs i
    · intro i j; rw [hstation, hstation]; exact ha i j

/-- Nothing is in progress, waits or is kept: every block is free, and no slot is used. -/
structure Cleared (t : State) : Prop where
  state : t.le.state = .stopped
  current : t.le.current = none
  deferred : t.le.deferred = []
  expired : t.le.expired = []
  stopMark : t.le.stopMark = false
  urgent : t.ru.urgent = []
  normal : t.ru.normal = []
  queue : t.cq = .reset
  free : t.fs.free = .all
  snapshots : t.fs.snapshots = Vector.replicate 32 Snapshot.reset
  cursor : t.fs.cursor = .staging

/-- The transaction in progress leaves the engine, which is left in a state that holds none. -/
def State.withoutCurrent (s : State) (e : EngineState) : State :=
  { s with le := { s.le with state := e, current := none, stopMark := false } }

/-- A transaction enters the engine. -/
def State.withCurrent (s : State) (e : EngineState) (x : Transaction) : State :=
  { s with le := { s.le with state := e, current := some x } }

/-- A request that waited leaves its blocks and its slot: its payload chain is freed and a record is
posted. -/
def State.settleRequest (s : State) (payload : Chain) (r : Record) : State :=
  { s with
    fs := { s.fs with free := s.fs.free ++ payload }
    cq := { ring := s.cq.ring ++ [r], reserved := s.cq.reserved - 1 } }

/-- One move. -/
inductive Move : State → State → Prop
  /-- What no account speaks of changes, under its own invariants. -/
  | aside {s t : State} : SameAccounts s t → FieldsKept s t → Move s t
  /-- The transaction goes on to another of the states that hold it. -/
  | phase {s : State} (e : EngineState) : s.le.state.holds = true → e.holds = true →
      Move s { s with le := { s.le with state := e } }
  /-- An engine without a transaction goes to another of the states that hold none. -/
  | rest {s : State} (e : EngineState) (m : Bool) :
      (s.le.state.holds = false ∨ s.le.current = none) → e.holds = false →
      (s.StopMarkFits → m = true → e = .breaking) →
      Move s { s with le := { s.le with state := e, stopMark := m } }
  /-- The stop mark is set. -/
  | mark {s : State} : s.le.state ≠ .idle → s.le.state ≠ .stopped →
      Move s { s with le := { s.le with stopMark := true } }
  /-- The transaction's counts and marks change. -/
  | retouch {s : State} (x y : Transaction) : s.le.current = some x → y.origin = x.origin →
      y.payload = x.payload → y.reservation = x.reservation →
      Move s { s with le := { s.le with current := some y } }
  /-- The payload chain is freed. -/
  | freePayload {s : State} (x : Transaction) : s.le.current = some x →
      Move s { s with
        le := { s.le with current := some { x with payload := [] } }
        fs := { s.fs with free := s.fs.free ++ x.payload } }
  /-- The reserved blocks but the first ones are freed. -/
  | freeReservation {s : State} (x : Transaction) (n : Nat) : s.le.current = some x →
      Move s { s with
        le := { s.le with current := some { x with reservation := x.reservation.take n } }
        fs := { s.fs with free := s.fs.free ++ x.reservation.drop n } }
  /-- The record of the transaction's request is posted, with what is left of the reservation. -/
  | post {s : State} (x : Transaction) (r : Record) (e : EngineState) : s.le.current = some x →
      x.isRequest = true → x.payload = [] → r.chain = x.reservation →
      (x.reservation.length ≤ 3 → r.ChainFits) → e.holds = false →
      Move s { s.withoutCurrent e with
        cq := { ring := s.cq.ring ++ [r], reserved := s.cq.reserved - 1 } }
  /-- A cycle item that holds no block any more is over. -/
  | drop {s : State} (x : Transaction) (e : EngineState) : s.le.current = some x →
      x.isRequest = false → x.payload = [] → x.reservation = [] → e.holds = false →
      Move s (s.withoutCurrent e)
  /-- The reply is installed as a station's current one. -/
  | installCurrent {s : State} (x : Transaction) (i : Fin 32) (r : Installed) (g : Word) :
      s.le.current = some x → (s.snapshot i).pinned = false → r.chain = x.reservation →
      (x.reservation.length ≤ 3 → r.ChainFits) →
      Move s { s with
        le := { s.le with current := some { x with reservation := [] } }
        fs := { s.fs with
          free := s.fs.free ++ replyChain (s.snapshot i).current
          snapshots := s.fs.snapshots.set i
            { s.snapshot i with current := some r, generation := g } } }
  /-- The reply is installed as a pinned station's next one. -/
  | installNext {s : State} (x : Transaction) (i : Fin 32) (r : Installed) (g : Word) :
      s.le.current = some x → (s.snapshot i).pinned = true → r.chain = x.reservation →
      (x.reservation.length ≤ 3 → r.ChainFits) →
      Move s { s with
        le := { s.le with current := some { x with reservation := [] } }
        fs := { s.fs with
          free := s.fs.free ++ replyChain (s.snapshot i).next
          snapshots := s.fs.snapshots.set i
            { s.snapshot i with next := some r, generation := g } } }
  /-- The transaction, its reservation freed, goes to the end of the deferred list. -/
  | defer {s : State} (x : Transaction) (d : Deferred) (e : EngineState) : s.le.current = some x →
      x.reservation = [] → s.le.deferred.length < 4 → (∀ y ∈ s.le.deferred, y.id ≠ d.id) →
      d.txn.origin = x.origin → d.txn.payload = x.payload → d.txn.reservation = [] →
      e.holds = false →
      Move s { s with
        le := { s.le with
          state := e, current := none, stopMark := false, deferred := s.le.deferred ++ [d] } }
  /-- A deferred transaction is taken up again. -/
  | takeDeferred {s : State} (d : Deferred) (y : Transaction) (e : EngineState) :
      s.le.state.holds = false → d ∈ s.le.deferred → y.origin = d.txn.origin →
      y.payload = d.txn.payload → y.reservation = [] → e.holds = true →
      Move s ((s.removeDeferred d.id).withCurrent e y)
  /-- The urgent head becomes the transaction. -/
  | takeUrgent {s : State} (r : Request) (l : List Request) (y : Transaction) (e : EngineState) :
      s.le.state.holds = false → s.ru.urgent = r :: l → y.isRequest = true →
      y.payload = r.payload → y.reservation = [] → e.holds = true →
      Move s (({ s with ru := { s.ru with urgent := l } } : State).withCurrent e y)
  /-- The normal head becomes the transaction. -/
  | takeNormal {s : State} (r : Request) (l : List Request) (y : Transaction) (e : EngineState) :
      s.le.state.holds = false → s.ru.normal = r :: l → y.isRequest = true →
      y.payload = r.payload → y.reservation = [] → e.holds = true →
      Move s (({ s with ru := { s.ru with normal := l } } : State).withCurrent e y)
  /-- A cycle item becomes the transaction. -/
  | takeItem {s : State} (y : Transaction) (e : EngineState) : s.le.state.holds = false →
      y.isRequest = false → y.payload = [] → y.reservation = [] → e.holds = true →
      Move s (s.withCurrent e y)
  /-- The transaction's reservation is taken from the front of the free list. -/
  | reserve {s : State} (x : Transaction) (n : Nat) : s.le.current = some x →
      x.reservation = [] → n ≤ 3 →
      Move s { s with
        le := { s.le with current := some { x with reservation := s.fs.free.take n } }
        fs := { s.fs with free := s.fs.free.drop n } }
  /-- A request of the urgent queue ends. -/
  | endUrgent {s : State} (r : Request) (l : List Request) (rec : Record) :
      s.ru.urgent.Perm (r :: l) → rec.chain = [] →
      Move s (({ s with ru := { s.ru with urgent := l } } : State).settleRequest r.payload rec)
  /-- A request of the normal queue ends. -/
  | endNormal {s : State} (r : Request) (l : List Request) (rec : Record) :
      s.ru.normal.Perm (r :: l) → rec.chain = [] →
      Move s (({ s with ru := { s.ru with normal := l } } : State).settleRequest r.payload rec)
  /-- A deferred request ends. -/
  | endDeferred {s : State} (d : Deferred) (l : List Deferred) (ex : List (Fin 4)) (rec : Record) :
      ((s.le.deferred.map Deferred.id).Nodup → s.le.deferred.Perm (d :: l)) →
      ex.Sublist s.le.expired → d.id ∉ ex → d.txn.isRequest = true → rec.chain = [] →
      Move s (({ s with le := { s.le with deferred := l, expired := ex } } : State).settleRequest
        d.txn.payload rec)
  /-- A deferred cycle item is dropped. -/
  | dropDeferred {s : State} (d : Deferred) (l : List Deferred) (ex : List (Fin 4)) :
      ((s.le.deferred.map Deferred.id).Nodup → s.le.deferred.Perm (d :: l)) →
      ex.Sublist s.le.expired → d.id ∉ ex → d.txn.isRequest = false →
      Move s { s with le := { s.le with deferred := l, expired := ex } }
  /-- No entry counts as expired any more. -/
  | forgetExpired {s : State} : Move s { s with le := { s.le with expired := [] } }
  /-- A request is accepted into the urgent queue. -/
  | acceptUrgent {s : State} (r : Request) (n : Nat) : s.cq.reserved + s.cq.ring.length < 32 →
      s.ru.urgent.length < 8 → r.payload = s.fs.free.take n →
      Move s { s with
        fs := { s.fs with free := s.fs.free.drop n }
        cq := { s.cq with reserved := s.cq.reserved + 1 }
        ru := { s.ru with urgent := s.ru.urgent ++ [r] } }
  /-- A request is accepted into the normal queue. -/
  | acceptNormal {s : State} (r : Request) (n : Nat) : s.cq.reserved + s.cq.ring.length < 32 →
      s.ru.normal.length < 16 → r.payload = s.fs.free.take n →
      Move s { s with
        fs := { s.fs with free := s.fs.free.drop n }
        cq := { s.cq with reserved := s.cq.reserved + 1 }
        ru := { s.ru with normal := s.ru.normal ++ [r] } }
  /-- Every holdoff counts down. -/
  | countHoldoffs {s : State} : Move s s.countHoldoffs
  /-- The holdoff of one entry reaches 0. -/
  | expireEntry {s : State} (d : Deferred) : d ∈ s.le.deferred → d.holdoff ≠ 0 →
      Move s (s.expireEntry d.id)
  /-- The head record is retired. -/
  | retire {s : State} (r : Record) (l : List Record) : s.cq.ring = r :: l →
      Move s (retireHead r l s)
  /-- The head's reply is opened. -/
  | openCompletion {s : State} (r : Record) (l : List Record) : s.cq.ring = r :: l → r.chain ≠ [] →
      Move s (s.setCursor (.completion 0 (r.replyLength.getD 0)))
  /-- A pinned reply is opened. -/
  | openSnapshot {s : State} (i : Fin 32) (r : Installed) : (s.snapshot i).pinned = true →
      (s.snapshot i).current = some r → r.chain ≠ [] →
      Move s (s.setCursor (.snapshot i 0 r.length))
  /-- The cursor goes to the staging payload. -/
  | openStaging {s : State} : Move s (s.setCursor .staging)
  /-- A byte of the head's reply is read. -/
  | readCompletion {s : State} (p r : BitVec 7) : s.fs.cursor = .completion p r → r ≠ 0 →
      Move s (s.setCursor (.completion (p + 1) (r - 1)))
  /-- A byte of a pinned reply is read. -/
  | readSnapshot {s : State} (i : Fin 32) (p r : BitVec 7) : s.fs.cursor = .snapshot i p r → r ≠ 0 →
      Move s (s.setCursor (.snapshot i (p + 1) (r - 1)))
  /-- A current reply is pinned. -/
  | pin {s : State} (i : Fin 32) : (s.snapshot i).current.isSome = true →
      Move s (s.setSnapshot i { s.snapshot i with pinned := true })
  /-- A pinned reply is given up. -/
  | unpin {s : State} (i : Fin 32) : (s.snapshot i).pinned = true → Move s (unpin i s)
  /-- A reset leaves nothing in progress. -/
  | clear {s t : State} : Cleared t → FieldsKept s t → Move s t

/-- A chain of moves. -/
def Moves : State → State → Prop := Relation.ReflTransGen Move

theorem Moves.refl (s : State) : Moves s s := Relation.ReflTransGen.refl

theorem Moves.trans {s t u : State} (h : Moves s t) (k : Moves t u) : Moves s u :=
  Relation.ReflTransGen.trans h k

theorem Move.moves {s t : State} (h : Move s t) : Moves s t := Relation.ReflTransGen.single h

/-- What every move keeps, a chain of moves keeps. -/
theorem Moves.keeps {P : State → Prop} (hstep : ∀ s t, Move s t → P s → P t) {s t : State}
    (h : Moves s t) (hs : P s) : P t := by
  induction h with
  | refl => exact hs
  | tail _ hlast ih => exact hstep _ _ hlast ih

/-! ## The invariants of a single field -/

theorem retireHead_fields (r : Record) (l : List Record) (s : State) :
    FieldsKept s (retireHead r l s) := by
  rw [retireHead_eq]
  exact .of_same rfl rfl rfl rfl rfl rfl

/-- The record that an unpinning leaves (R153). -/
def Snapshot.unpinned (x : Snapshot) : Snapshot :=
  match x.next with
  | none => { x with pinned := false }
  | some n => { x with pinned := false, current := some n, next := none }

/-- Unpinning a record changes the cursor, the snapshots and the free list alone. -/
theorem unpin_frame (i : Fin 32) (s : State) :
    unpin i s =
      { s with
        fs := { s.fs with
          cursor := s.fs.cursor.leaveSnapshot i
          free := match (s.snapshot i).next with
            | none => s.fs.free
            | some _ => s.fs.free ++ replyChain (s.snapshot i).current
          snapshots := s.fs.snapshots.set i (s.snapshot i).unpinned } } := by
  cases hnext : (s.snapshot i).next with
  | none => simp only [unpin_of_noNext s hnext, Snapshot.unpinned, hnext]; rfl
  | some n => simp only [unpin_of_next s hnext, Snapshot.unpinned, hnext]; rfl

theorem unpin_fields (i : Fin 32) (s : State) : FieldsKept s (unpin i s) := by
  rw [unpin_frame]
  exact .of_same rfl rfl rfl rfl rfl rfl

/-- Every move keeps the invariants of a single field: but for the moves that state it, none touches
the fields they speak of. -/
theorem Move.fieldsKept {s t : State} (h : Move s t) : FieldsKept s t := by
  cases h with
  | aside _ hkept => exact hkept
  | clear _ hkept => exact hkept
  | retire r l _ => exact retireHead_fields r l s
  | unpin i _ => exact unpin_fields i s
  | _ => exact .of_same rfl rfl rfl rfl rfl rfl

theorem Moves.fieldsKept {s t : State} (h : Moves s t) : FieldsKept s t := by
  induction h with
  | refl => exact FieldsKept.refl s
  | tail _ hlast ih => exact ih.trans hlast.fieldsKept

end Sys2Proof.Machine

/-! PROOF. Move by move: the engine's transactions (section 3.1, R52, R54, R59), the slots (R126, R127)
and the blocks (R144). -/

namespace Sys2Proof.Machine

/-! ## The deferred list (R52) -/

/-- Under different names, dropping an entry's name drops that entry alone. -/
theorem perm_cons_filter_id {l : List Deferred} {d : Deferred}
    (hids : (l.map Deferred.id).Nodup) (hd : d ∈ l) :
    l.Perm (d :: l.filter fun x => decide (x.id ≠ d.id)) := by
  induction l with
  | nil => cases hd
  | cons a l ih =>
    rw [List.map_cons, List.nodup_cons] at hids
    obtain ⟨hfresh, hids⟩ := hids
    have hother (x : Deferred) (hx : x ∈ l) : x.id ≠ a.id :=
      fun h => hfresh (h ▸ List.mem_map_of_mem hx)
    rcases List.mem_cons.mp hd with rfl | hd
    · have hall : (l.filter fun x => decide (x.id ≠ d.id)) = l :=
        List.filter_eq_self.mpr fun x hx => decide_eq_true (hother x hx)
      rw [List.filter_cons_of_neg (by simp), hall]
    · rw [List.filter_cons_of_pos (by simpa using (hother d hd).symm)]
      exact ((ih hids hd).cons a).trans (.swap d a _)

/-- The deferred list stays well formed when an entry leaves it and the expiry order. -/
theorem State.DeferredWf.remove {s t : State} (h : s.DeferredWf) {d : Deferred}
    (hperm : s.le.deferred.Perm (d :: t.le.deferred))
    (hexp : t.le.expired.Sublist s.le.expired) (hd : d.id ∉ t.le.expired) : t.DeferredWf := by
  obtain ⟨hlen, hids, hnodup, hzero, hheld⟩ := h
  have hmem (x : Deferred) : x ∈ s.le.deferred ↔ x = d ∨ x ∈ t.le.deferred := by
    rw [hperm.mem_iff, List.mem_cons]
  refine ⟨?_, ?_, hnodup.sublist hexp, ?_, fun x hx => hheld x ((hmem x).mpr (.inr hx))⟩
  · have := hperm.length_eq
    rw [List.length_cons] at this
    omega
  · have := (hperm.map Deferred.id).nodup_iff.mp hids
    rw [List.map_cons, List.nodup_cons] at this
    exact this.2
  · intro i hi
    obtain ⟨x, hx, rfl, hx0⟩ := hzero i (hexp.subset hi)
    rcases (hmem x).mp hx with rfl | hx
    · exact absurd hi hd
    · exact ⟨x, hx, rfl, hx0⟩

/-- A countdown keeps an entry's name and transaction. -/
theorem Deferred.countDown_id (d : Deferred) : d.countDown.id = d.id := by
  unfold Deferred.countDown; split <;> rfl

theorem Deferred.countDown_txn (d : Deferred) : d.countDown.txn = d.txn := by
  unfold Deferred.countDown; split <;> rfl

/-- A holdoff of 0 or 1 is 0 after a countdown. -/
theorem Deferred.countDown_zero (d : Deferred) (h : d.holdoff = 0 ∨ d.holdoff = 1) :
    d.countDown.holdoff = 0 := by
  unfold Deferred.countDown
  rcases h with h | h <;> simp [h]

/-- The deferred list stays well formed when every holdoff counts down. -/
theorem State.DeferredWf.countHoldoffs {s : State} (h : s.DeferredWf) :
    s.countHoldoffs.DeferredWf := by
  obtain ⟨hlen, hids, hnodup, hzero, hheld⟩ := h
  have hmap : (s.le.deferred.map Deferred.countDown).map Deferred.id =
      s.le.deferred.map Deferred.id := by
    rw [List.map_map]
    exact List.map_congr_left fun d _ => d.countDown_id
  refine ⟨?_, ?_, ?_, ?_, ?_⟩
  · show (s.le.deferred.map Deferred.countDown).length ≤ 4
    rwa [List.length_map]
  · show ((s.le.deferred.map Deferred.countDown).map Deferred.id).Nodup
    rwa [hmap]
  · show (s.le.expired ++
      (s.le.deferred.filter fun d => decide (d.holdoff = 1)).map Deferred.id).Nodup
    refine List.nodup_append.mpr ⟨hnodup, hids.sublist (List.filter_sublist.map _), ?_⟩
    rintro i hi j hj rfl
    obtain ⟨d, hd, rfl⟩ := List.mem_map.mp hj
    obtain ⟨hd, hone⟩ := List.mem_filter.mp hd
    obtain ⟨e, he, hid, hezero⟩ := hzero _ hi
    obtain rfl := List.inj_on_of_nodup_map hids he hd hid
    rw [decide_eq_true_iff, hezero] at hone
    exact absurd hone (by decide)
  · intro i hi
    have hfound : ∃ d ∈ s.le.deferred, d.id = i ∧ (d.holdoff = 0 ∨ d.holdoff = 1) := by
      rcases List.mem_append.mp hi with hi | hi
      · obtain ⟨d, hd, hid, h0⟩ := hzero i hi
        exact ⟨d, hd, hid, .inl h0⟩
      · obtain ⟨d, hd, rfl⟩ := List.mem_map.mp hi
        obtain ⟨hd, hone⟩ := List.mem_filter.mp hd
        exact ⟨d, hd, rfl, .inr (of_decide_eq_true hone)⟩
    obtain ⟨d, hd, rfl, hsmall⟩ := hfound
    exact ⟨d.countDown, List.mem_map_of_mem hd, d.countDown_id, d.countDown_zero hsmall⟩
  · intro d hd
    obtain ⟨e, he, rfl⟩ := List.mem_map.mp hd
    rw [e.countDown_txn]
    exact hheld e he

/-- The deferred list stays well formed when the holdoff of one entry reaches 0. -/
theorem State.DeferredWf.expireEntry {s : State} (h : s.DeferredWf) {d : Deferred}
    (hd : d ∈ s.le.deferred) (hcounting : d.holdoff ≠ 0) : (s.expireEntry d.id).DeferredWf := by
  obtain ⟨hlen, hids, hnodup, hzero, hheld⟩ := h
  let f (x : Deferred) : Deferred := if x.id = d.id then { x with holdoff := 0 } else x
  have hfid (x : Deferred) : (f x).id = x.id := by simp only [f]; split <;> rfl
  have hftxn (x : Deferred) : (f x).txn = x.txn := by simp only [f]; split <;> rfl
  have hfzero (x : Deferred) (hx : x.id = d.id ∨ x.holdoff = 0) : (f x).holdoff = 0 := by
    simp only [f]; split
    · rfl
    · exact hx.resolve_left ‹_›
  have hmap : (s.le.deferred.map f).map Deferred.id = s.le.deferred.map Deferred.id := by
    rw [List.map_map]
    exact List.map_congr_left fun x _ => hfid x
  refine ⟨?_, ?_, ?_, ?_, ?_⟩
  · show (s.le.deferred.map f).length ≤ 4
    rwa [List.length_map]
  · show ((s.le.deferred.map f).map Deferred.id).Nodup
    rwa [hmap]
  · show (s.le.expired ++ [d.id]).Nodup
    refine List.nodup_append.mpr ⟨hnodup, List.nodup_singleton _, ?_⟩
    rintro i hi j hj rfl
    obtain ⟨e, he, hid, hezero⟩ := hzero _ hi
    rw [List.mem_singleton] at hj
    obtain rfl := List.inj_on_of_nodup_map hids he hd (hid.trans hj)
    exact hcounting hezero
  · intro i hi
    rcases List.mem_append.mp hi with hi | hi
    · obtain ⟨e, he, hid, hezero⟩ := hzero i hi
      exact ⟨f e, List.mem_map_of_mem he, (hfid e).trans hid, hfzero e (.inr hezero)⟩
    · rw [List.mem_singleton] at hi
      exact ⟨f d, List.mem_map_of_mem hd, (hfid d).trans hi.symm, hfzero d (.inl rfl)⟩
  · intro x hx
    obtain ⟨e, he, rfl⟩ := List.mem_map.mp hx
    rw [hftxn e]
    exact hheld e he

/-- The deferred list stays well formed when an entry under a new name joins it. -/
theorem State.DeferredWf.append {s t : State} (h : s.DeferredWf) {d : Deferred}
    (hroom : s.le.deferred.length < 4) (hfresh : ∀ y ∈ s.le.deferred, y.id ≠ d.id)
    (hreservation : d.txn.reservation = []) (hpayload : d.txn.PayloadFits)
    (hdeferred : t.le.deferred = s.le.deferred ++ [d]) (hexpired : t.le.expired = s.le.expired) :
    t.DeferredWf := by
  obtain ⟨hlen, hids, hnodup, hzero, hheld⟩ := h
  rw [State.DeferredWf, hdeferred, hexpired]
  refine ⟨by simp; omega, ?_, hnodup, ?_, ?_⟩
  · rw [List.map_append, List.nodup_append]
    refine ⟨hids, List.nodup_singleton _, ?_⟩
    rintro i hi j hj rfl
    obtain ⟨y, hy, hid⟩ := List.mem_map.mp hi
    exact hfresh y hy (hid.trans (List.mem_singleton.mp hj))
  · intro i hi
    obtain ⟨e, he, hrest⟩ := hzero i hi
    exact ⟨e, List.mem_append_left _ he, hrest⟩
  · intro x hx
    rcases List.mem_append.mp hx with hx | hx
    · exact hheld x hx
    · rw [List.mem_singleton.mp hx]
      exact ⟨hreservation, hpayload⟩

/-- Where neither changes, the deferred list and the expiry order stay well formed. -/
theorem State.DeferredWf.of_same {s t : State} (h : s.DeferredWf)
    (hdeferred : t.le.deferred = s.le.deferred) (hexpired : t.le.expired = s.le.expired) :
    t.DeferredWf := by
  rw [State.DeferredWf, hdeferred, hexpired]
  exact h

/-! ## The transactions (section 3.1, R54, R147) -/

/-- Whether a payload fits is said by the origin and the payload. -/
theorem Transaction.PayloadFits.of_same {x y : Transaction} (h : x.PayloadFits)
    (horigin : y.origin = x.origin) (hpayload : y.payload = x.payload) : y.PayloadFits := by
  unfold Transaction.PayloadFits Transaction.isRequest
  rw [horigin, hpayload]
  exact h

/-- An engine in a state that holds none has no transaction. -/
theorem State.TransactionsWf.noCurrent {s : State} (h : s.TransactionsWf)
    (hstate : s.le.state.holds = false) : s.le.current = none := by
  have := h.1
  rw [State.EngineCoherent, hstate] at this
  simpa using this

/-- An engine with a transaction is in a state that holds one. -/
theorem State.TransactionsWf.holds {s : State} (h : s.TransactionsWf) {x : Transaction}
    (hcurrent : s.le.current = some x) : s.le.state.holds = true := by
  have := h.1
  rw [State.EngineCoherent, hcurrent] at this
  simpa using this.symm

/-- A state whose engine holds a transaction that fits, as its state says. -/
theorem State.TransactionsWf.of_current {t : State} {x : Transaction}
    (hcurrent : t.le.current = some x) (hstate : t.le.state.holds = true) (hdef : t.DeferredWf)
    (hfits : x.PayloadFits) : t.TransactionsWf := by
  refine ⟨by simp [State.EngineCoherent, hcurrent, hstate], hdef, ?_⟩
  intro y hy
  rw [hcurrent, Option.some.injEq] at hy
  exact hy ▸ hfits

/-- A state whose engine holds no transaction, as its state says. -/
theorem State.TransactionsWf.of_none {t : State} (hcurrent : t.le.current = none)
    (hstate : t.le.state.holds = false) (hdef : t.DeferredWf) : t.TransactionsWf := by
  refine ⟨by simp [State.EngineCoherent, hcurrent, hstate], hdef, ?_⟩
  intro y hy
  rw [hcurrent] at hy
  cases hy

/-- A state in which neither the engine's state nor its transaction has changed. -/
theorem State.TransactionsWf.of_same {s t : State} (h : s.TransactionsWf)
    (hcurrent : t.le.current = s.le.current) (hstate : t.le.state = s.le.state)
    (hdef : t.DeferredWf) : t.TransactionsWf := by
  obtain ⟨hco, -, hfits⟩ := h
  refine ⟨?_, hdef, ?_⟩
  · rw [State.EngineCoherent, hcurrent, hstate]; exact hco
  · rw [hcurrent]; exact hfits

/-- Every move keeps the transactions well formed. -/
theorem Move.transactionsWf {s t : State} (h : Move s t) (hs : s.TransactionsWf) :
    t.TransactionsWf := by
  have ⟨hco, hdef, hfits⟩ := hs
  have ⟨_, _, _, _, hheld⟩ := hdef
  cases h with
  | aside hsame _ =>
    exact hs.of_same hsame.current hsame.state (hdef.of_same hsame.deferred hsame.expired)
  | phase e hold hnew =>
    obtain ⟨x, hx⟩ : ∃ x, s.le.current = some x := by
      rw [← Option.isSome_iff_exists]; exact hco.trans hold
    exact .of_current hx hnew hdef (hfits x hx)
  | rest e m hold hnew _ => exact .of_none (hold.elim hs.noCurrent id) hnew hdef
  | mark _ _ => exact hs.of_same rfl rfl hdef
  | retouch x y hx horigin hpayload _ =>
    exact .of_current rfl (hs.holds hx) hdef ((hfits x hx).of_same horigin hpayload)
  | freePayload x hx => exact .of_current rfl (hs.holds hx) hdef (.inr rfl)
  | freeReservation x n hx =>
    exact .of_current rfl (hs.holds hx) hdef ((hfits x hx).of_same rfl rfl)
  | post x r e _ _ _ _ _ he => exact .of_none rfl he hdef
  | drop x e _ _ _ _ he => exact .of_none rfl he hdef
  | installCurrent x i r g hx _ _ _ =>
    exact .of_current rfl (hs.holds hx) hdef ((hfits x hx).of_same rfl rfl)
  | installNext x i r g hx _ _ _ =>
    exact .of_current rfl (hs.holds hx) hdef ((hfits x hx).of_same rfl rfl)
  | defer x d e hx _ hroom hfresh horigin hpayload hres he =>
    exact .of_none rfl he
      (hdef.append hroom hfresh hres ((hfits x hx).of_same horigin hpayload) rfl rfl)
  | takeDeferred d y e _ hd horigin hpayload _ he =>
    refine .of_current rfl he ?_ ((hheld d hd).2.of_same horigin hpayload)
    exact hdef.remove (d := d) (perm_cons_filter_id hdef.2.1 hd) List.filter_sublist
      (by simp [State.withCurrent])
  | takeUrgent r l y e _ _ hreq _ _ he => exact .of_current rfl he hdef (.inl hreq)
  | takeNormal r l y e _ _ hreq _ _ he => exact .of_current rfl he hdef (.inl hreq)
  | takeItem y e _ _ hpayload _ he => exact .of_current rfl he hdef (.inr hpayload)
  | reserve x n hx _ _ =>
    exact .of_current rfl (hs.holds hx) hdef ((hfits x hx).of_same rfl rfl)
  | endUrgent => exact hs.of_same rfl rfl hdef
  | endNormal => exact hs.of_same rfl rfl hdef
  | endDeferred d l ex rec hperm hex hd _ _ =>
    exact hs.of_same rfl rfl (hdef.remove (hperm hdef.2.1) hex hd)
  | dropDeferred d l ex hperm hex hd _ =>
    exact hs.of_same rfl rfl (hdef.remove (hperm hdef.2.1) hex hd)
  | forgetExpired =>
    obtain ⟨hlen, hids, _, _, _⟩ := hdef
    exact hs.of_same rfl rfl ⟨hlen, hids, List.nodup_nil, by simp, hheld⟩
  | acceptUrgent => exact hs.of_same rfl rfl hdef
  | acceptNormal => exact hs.of_same rfl rfl hdef
  | countHoldoffs => exact hs.of_same rfl rfl hdef.countHoldoffs
  | expireEntry d hd hcounting => exact hs.of_same rfl rfl (hdef.expireEntry hd hcounting)
  | retire r l _ =>
    rw [retireHead_eq]
    exact hs.of_same rfl rfl hdef
  | openCompletion => exact hs.of_same rfl rfl hdef
  | openSnapshot => exact hs.of_same rfl rfl hdef
  | openStaging => exact hs.of_same rfl rfl hdef
  | readCompletion => exact hs.of_same rfl rfl hdef
  | readSnapshot => exact hs.of_same rfl rfl hdef
  | pin => exact hs.of_same rfl rfl hdef
  | unpin i _ =>
    rw [unpin_frame]
    exact hs.of_same rfl rfl hdef
  | clear hcleared _ =>
    refine .of_none hcleared.current (by rw [hcleared.state]; rfl) ?_
    rw [State.DeferredWf, hcleared.deferred, hcleared.expired]
    simp

/-! ## The stop mark (R59) -/

/-- The stop mark fits a state that waits for an end. -/
theorem State.StopMarkFits.of_state {t : State} (hidle : t.le.state ≠ .idle)
    (hstopped : t.le.state ≠ .stopped) : t.StopMarkFits := fun _ => ⟨hidle, hstopped⟩

theorem State.StopMarkFits.of_false {t : State} (h : t.le.stopMark = false) : t.StopMarkFits :=
  fun hmark => absurd hmark (by simp [h])

theorem State.StopMarkFits.of_holds {t : State} (h : t.le.state.holds = true) : t.StopMarkFits :=
  .of_state (fun he => by rw [he] at h; cases h) (fun he => by rw [he] at h; cases h)

theorem State.StopMarkFits.of_same {s t : State} (h : s.StopMarkFits)
    (hstate : t.le.state = s.le.state) (hmark : t.le.stopMark = s.le.stopMark) :
    t.StopMarkFits := by
  rw [State.StopMarkFits, hstate, hmark]
  exact h

/-- Every move keeps the stop mark in its place. -/
theorem Move.stopMarkFits {s t : State} (h : Move s t) (hs : s.StopMarkFits) :
    t.StopMarkFits := by
  cases h with
  | aside hsame _ => exact hs.of_same hsame.state hsame.stopMark
  | phase e _ hnew => exact .of_holds hnew
  | rest e m _ _ hmark =>
    intro hm
    obtain rfl := hmark hs hm
    exact ⟨nofun, nofun⟩
  | mark hidle hstopped => exact .of_state hidle hstopped
  | post => exact .of_false rfl
  | drop => exact .of_false rfl
  | defer => exact .of_false rfl
  | takeDeferred d y e _ _ _ _ _ he => exact .of_holds he
  | takeUrgent r l y e _ _ _ _ _ he => exact .of_holds he
  | takeNormal r l y e _ _ _ _ _ he => exact .of_holds he
  | takeItem y e _ _ _ _ he => exact .of_holds he
  | retire r l _ =>
    rw [retireHead_eq]
    exact hs.of_same rfl rfl
  | unpin i _ =>
    rw [unpin_frame]
    exact hs.of_same rfl rfl
  | clear hcleared _ => exact .of_false hcleared.stopMark
  | _ => exact hs.of_same rfl rfl

end Sys2Proof.Machine

/-! PROOF. Move by move: the slots (R126, R127) and the blocks (R144). -/

namespace Sys2Proof.Machine

/-! ## The slots (R126, R127) -/

/-- The unposted requests of an engine without a transaction. -/
theorem State.unposted_of_none {s : State} (h : s.le.current = none) :
    s.unposted = s.ru.urgent.length + s.ru.normal.length +
      s.le.deferred.countP fun d => d.txn.isRequest := by
  simp [State.unposted, h]

/-- The unposted requests of an engine with a transaction. -/
theorem State.unposted_of_some {s : State} {x : Transaction} (h : s.le.current = some x) :
    s.unposted = s.ru.urgent.length + s.ru.normal.length + (if x.isRequest then 1 else 0) +
      s.le.deferred.countP fun d => d.txn.isRequest := by
  simp [State.unposted, h, List.countP_cons]

theorem Transaction.isRequest_of_origin {x y : Transaction} (h : y.origin = x.origin) :
    y.isRequest = x.isRequest := by
  unfold Transaction.isRequest
  rw [h]

/-- Where the queue lengths, the ring, the reserved count and the unposted requests are as before, so
are the slots. -/
theorem State.SlotsAccounted.of_same {s t : State} (h : s.SlotsAccounted) (hcq : t.cq = s.cq)
    (hurgent : t.ru.urgent.length ≤ s.ru.urgent.length)
    (hnormal : t.ru.normal.length ≤ s.ru.normal.length) (hunposted : t.unposted = s.unposted) :
    t.SlotsAccounted := by
  obtain ⟨hcount, hslots, hu, hn⟩ := h
  rw [State.SlotsAccounted, hcq, hunposted]
  exact ⟨hcount, hslots, hurgent.trans hu, hnormal.trans hn⟩

/-- A posting makes an occupied slot of a reserved one: one unposted request less. -/
theorem State.SlotsAccounted.posted {s t : State} (h : s.SlotsAccounted) {r : Record}
    (hcq : t.cq = { ring := s.cq.ring ++ [r], reserved := s.cq.reserved - 1 })
    (hurgent : t.ru.urgent.length ≤ s.ru.urgent.length)
    (hnormal : t.ru.normal.length ≤ s.ru.normal.length) (hunposted : t.unposted + 1 = s.unposted) :
    t.SlotsAccounted := by
  obtain ⟨hcount, hslots, hu, hn⟩ := h
  refine ⟨?_, ?_, hurgent.trans hu, hnormal.trans hn⟩
  · simp only [hcq]; omega
  · simp only [hcq, List.length_append, List.length_singleton]; omega

/-- A countdown leaves the number of deferred requests. -/
theorem countP_countDown (l : List Deferred) :
    (l.map Deferred.countDown).countP (fun d => d.txn.isRequest) =
      l.countP fun d => d.txn.isRequest := by
  rw [List.countP_map]
  exact List.countP_congr fun d _ => by simp [Deferred.countDown_txn]

/-- Every move keeps the slots accounted for. -/
theorem Move.slotsAccounted {s t : State} (h : Move s t) (hwf : s.TransactionsWf)
    (hs : s.SlotsAccounted) : t.SlotsAccounted := by
  have ⟨_, ⟨_, hids, _, _, _⟩, _⟩ := hwf
  have ⟨hcount, hslots, hu, hn⟩ := hs
  have same (u : State) (hcq : u.cq = s.cq) (hru : u.ru = s.ru) (hc : u.le.current = s.le.current)
      (hd : u.le.deferred = s.le.deferred) : u.SlotsAccounted :=
    hs.of_same hcq (by rw [hru]) (by rw [hru]) (by simp only [State.unposted, hru, hc, hd])
  cases h with
  | aside hsame _ =>
    refine hs.of_same hsame.queue (by rw [hsame.urgent]) (by rw [hsame.normal]) ?_
    simp only [State.unposted, hsame.urgent, hsame.normal, hsame.current, hsame.deferred]
  | phase => exact same _ rfl rfl rfl rfl
  | rest => exact same _ rfl rfl rfl rfl
  | mark => exact same _ rfl rfl rfl rfl
  | retouch x y hx horigin _ _ =>
    refine hs.of_same rfl le_rfl le_rfl ?_
    rw [State.unposted_of_some rfl, State.unposted_of_some hx,
      Transaction.isRequest_of_origin horigin]
  | freePayload x hx =>
    refine hs.of_same rfl le_rfl le_rfl ?_
    rw [State.unposted_of_some rfl, State.unposted_of_some hx]
    rfl
  | freeReservation x n hx =>
    refine hs.of_same rfl le_rfl le_rfl ?_
    rw [State.unposted_of_some rfl, State.unposted_of_some hx]
    rfl
  | post x r e hx hreq _ _ _ _ =>
    refine hs.posted rfl le_rfl le_rfl ?_
    rw [State.unposted_of_none rfl, State.unposted_of_some hx, if_pos hreq]
    simp only [State.withoutCurrent]
    omega
  | drop x e hx hreq _ _ _ =>
    refine hs.of_same rfl le_rfl le_rfl ?_
    rw [State.unposted_of_none rfl, State.unposted_of_some hx, hreq]
    rfl
  | installCurrent x i r g hx _ _ _ =>
    refine hs.of_same rfl le_rfl le_rfl ?_
    rw [State.unposted_of_some rfl, State.unposted_of_some hx]
    rfl
  | installNext x i r g hx _ _ _ =>
    refine hs.of_same rfl le_rfl le_rfl ?_
    rw [State.unposted_of_some rfl, State.unposted_of_some hx]
    rfl
  | defer x d e hx _ _ _ horigin _ _ _ =>
    refine hs.of_same rfl le_rfl le_rfl ?_
    rw [State.unposted_of_none rfl, State.unposted_of_some hx]
    simp only [List.countP_append, List.countP_singleton, Transaction.isRequest_of_origin horigin]
    omega
  | takeDeferred d y e hstate hd horigin _ _ _ =>
    refine hs.of_same rfl le_rfl le_rfl ?_
    rw [State.unposted_of_some rfl, State.unposted_of_none (hwf.noCurrent hstate),
      (perm_cons_filter_id hids hd).countP_eq, List.countP_cons,
      Transaction.isRequest_of_origin horigin]
    simp only [State.withCurrent, State.removeDeferred]
    omega
  | takeUrgent r l y e hstate hq hreq _ _ _ =>
    refine hs.of_same rfl (by simp [State.withCurrent, hq]) le_rfl ?_
    rw [State.unposted_of_some rfl, State.unposted_of_none (hwf.noCurrent hstate), hq, if_pos hreq]
    simp only [State.withCurrent, List.length_cons]
    omega
  | takeNormal r l y e hstate hq hreq _ _ _ =>
    refine hs.of_same rfl le_rfl (by simp [State.withCurrent, hq]) ?_
    rw [State.unposted_of_some rfl, State.unposted_of_none (hwf.noCurrent hstate), hq, if_pos hreq]
    simp only [State.withCurrent, List.length_cons]
    omega
  | takeItem y e hstate hreq _ _ _ =>
    refine hs.of_same rfl le_rfl le_rfl ?_
    rw [State.unposted_of_some rfl, State.unposted_of_none (hwf.noCurrent hstate), hreq]
    rfl
  | reserve x n hx _ _ =>
    refine hs.of_same rfl le_rfl le_rfl ?_
    rw [State.unposted_of_some rfl, State.unposted_of_some hx]
    rfl
  | endUrgent r l rec hperm _ =>
    have hlen := hperm.length_eq
    rw [List.length_cons] at hlen
    refine hs.posted rfl ?_ le_rfl ?_
    · simp only [State.settleRequest]; omega
    · simp only [State.unposted, State.settleRequest]; omega
  | endNormal r l rec hperm _ =>
    have hlen := hperm.length_eq
    rw [List.length_cons] at hlen
    refine hs.posted rfl le_rfl ?_ ?_
    · simp only [State.settleRequest]; omega
    · simp only [State.unposted, State.settleRequest]; omega
  | endDeferred d l ex rec hperm _ _ hreq _ =>
    refine hs.posted rfl le_rfl le_rfl ?_
    simp only [State.unposted, State.settleRequest, (hperm hids).countP_eq, List.countP_cons,
      if_pos hreq]
    omega
  | dropDeferred d l ex hperm _ _ hreq =>
    refine hs.of_same rfl le_rfl le_rfl ?_
    simp only [State.unposted, (hperm hids).countP_eq, List.countP_cons, hreq]
    rfl
  | forgetExpired => exact same _ rfl rfl rfl rfl
  | acceptUrgent r n hroom hlen _ =>
    refine ⟨?_, ?_, ?_, hn⟩
    · simp only [State.unposted, List.length_append, List.length_singleton] at hcount ⊢; omega
    · simp only; omega
    · simp only [List.length_append, List.length_singleton]; omega
  | acceptNormal r n hroom hlen _ =>
    refine ⟨?_, ?_, hu, ?_⟩
    · simp only [State.unposted, List.length_append, List.length_singleton] at hcount ⊢; omega
    · simp only; omega
    · simp only [List.length_append, List.length_singleton]; omega
  | countHoldoffs =>
    refine hs.of_same rfl le_rfl le_rfl ?_
    simp only [State.unposted, State.countHoldoffs, countP_countDown]
  | expireEntry d _ _ =>
    refine hs.of_same rfl le_rfl le_rfl ?_
    simp only [State.unposted, State.expireEntry, List.countP_map]
    congr 1
    refine List.countP_congr fun x _ => ?_
    simp only [Function.comp]
    split <;> rfl
  | retire r l hring =>
    rw [retireHead_eq]
    refine ⟨hcount, ?_, hu, hn⟩
    rw [hring, List.length_cons] at hslots
    simp only
    omega
  | openCompletion => exact same _ rfl rfl rfl rfl
  | openSnapshot => exact same _ rfl rfl rfl rfl
  | openStaging => exact same _ rfl rfl rfl rfl
  | readCompletion => exact same _ rfl rfl rfl rfl
  | readSnapshot => exact same _ rfl rfl rfl rfl
  | pin => exact same _ rfl rfl rfl rfl
  | unpin i _ =>
    rw [unpin_frame]
    exact same _ rfl rfl rfl rfl
  | clear hc _ =>
    simp [State.SlotsAccounted, State.unposted, hc.queue, hc.urgent, hc.normal, hc.current,
      hc.deferred, CompletionQueue.reset]

/-! ## The blocks (R144) -/

/-- How often a block stands in the lists of a state. -/
theorem State.count_allBlocks (s : State) (b : Block) :
    s.allBlocks.count b =
      s.fs.free.count b + (s.ru.urgent.flatMap Request.payload).count b +
        (s.ru.normal.flatMap Request.payload).count b +
        (s.le.current.toList.flatMap Transaction.held).count b +
        (s.le.deferred.flatMap fun d => d.txn.held).count b +
        (s.cq.ring.flatMap Record.chain).count b +
        (s.fs.snapshots.toList.flatMap Snapshot.held).count b := by
  simp only [State.allBlocks, List.count_append]

/-- The blocks stay accounted for when each stands in the lists as often as before. -/
theorem State.BlocksAccounted.of_count {s t : State} (h : s.BlocksAccounted)
    (hcount : ∀ b, t.allBlocks.count b = s.allBlocks.count b) : t.BlocksAccounted :=
  (List.perm_iff_count.mpr hcount).trans h

theorem count_held (x : Transaction) (b : Block) :
    x.held.count b = x.payload.count b + x.reservation.count b := by
  simp only [Transaction.held, List.count_append]

theorem Snapshot.count_held (x : Snapshot) (b : Block) :
    x.held.count b = (replyChain x.current).count b + (replyChain x.next).count b := by
  simp only [Snapshot.held, List.count_append]

/-- Setting an element of a list exchanges what it holds for what the new one holds. -/
theorem count_flatMap_set {α : Type} (f : α → Chain) (b : Block) (l : List α) (n : Nat) (x y : α)
    (h : l[n]? = some x) :
    ((l.set n y).flatMap f).count b + (f x).count b =
      (l.flatMap f).count b + (f y).count b := by
  induction l generalizing n with
  | nil => cases h
  | cons a l ih =>
    cases n with
    | zero =>
      obtain rfl : a = x := by simpa using h
      simp only [List.set_cons_zero, List.flatMap_cons, List.count_append]
      omega
    | succ n =>
      have := ih n (by simpa using h)
      simp only [List.set_cons_succ, List.flatMap_cons, List.count_append]
      omega

/-- Replacing a station's record exchanges what it holds for what the new one holds. -/
theorem count_snapshots_set (s : State) (i : Fin 32) (y : Snapshot) (b : Block) :
    ((s.fs.snapshots.set i y).toList.flatMap Snapshot.held).count b +
        (s.snapshot i).held.count b =
      (s.fs.snapshots.toList.flatMap Snapshot.held).count b + y.held.count b := by
  rw [Vector.toList_set]
  refine count_flatMap_set _ _ _ _ _ _ ?_
  show s.fs.snapshots.toList[i.val]? = some s.fs.snapshots[i.val]
  simp

/-- Blocks taken from the front of the free list and those left make up the list. -/
theorem count_take_add_drop (l : Chain) (n : Nat) (b : Block) :
    (l.take n).count b + (l.drop n).count b = l.count b := by
  rw [← List.count_append, List.take_append_drop]

/-- Every move keeps the blocks accounted for. -/
theorem Move.blocksAccounted {s t : State} (h : Move s t) (hwf : s.TransactionsWf)
    (hs : s.BlocksAccounted) : t.BlocksAccounted := by
  have ⟨_, ⟨_, hids, _, _, hheld⟩, hfits⟩ := hwf
  cases h with
  | aside hsame _ =>
    rw [State.BlocksAccounted, State.allBlocks, hsame.free, hsame.urgent, hsame.normal,
      hsame.current, hsame.deferred, hsame.queue, hsame.snapshots]
    exact hs
  | retouch x y hx _ hpayload hres =>
    refine hs.of_count fun b => ?_
    simp [State.count_allBlocks, hx, count_held, hpayload, hres]
  | freePayload x hx =>
    refine hs.of_count fun b => ?_
    simp [State.count_allBlocks, hx, count_held]
    omega
  | freeReservation x n hx =>
    refine hs.of_count fun b => ?_
    have := count_take_add_drop x.reservation n b
    simp [State.count_allBlocks, hx, count_held]
    omega
  | post x r e hx _ hpayload hchain _ _ =>
    refine hs.of_count fun b => ?_
    simp [State.count_allBlocks, State.withoutCurrent, hx, count_held, hpayload, hchain]
    omega
  | drop x e hx _ hpayload hres _ =>
    refine hs.of_count fun b => ?_
    simp [State.count_allBlocks, State.withoutCurrent, hx, count_held, hpayload, hres]
  | installCurrent x i r g hx _ hchain _ =>
    refine hs.of_count fun b => ?_
    have := count_snapshots_set s i { s.snapshot i with current := some r, generation := g } b
    simp [State.count_allBlocks, hx, count_held, Snapshot.count_held, replyChain, hchain] at this ⊢
    omega
  | installNext x i r g hx _ hchain _ =>
    refine hs.of_count fun b => ?_
    have := count_snapshots_set s i { s.snapshot i with next := some r, generation := g } b
    simp [State.count_allBlocks, hx, count_held, Snapshot.count_held, replyChain, hchain] at this ⊢
    omega
  | defer x d e hx hres _ _ _ hpayload hdres _ =>
    refine hs.of_count fun b => ?_
    simp [State.count_allBlocks, hx, count_held, hpayload, hres, hdres]
    omega
  | takeDeferred d y e hstate hd _ hpayload hres _ =>
    refine hs.of_count fun b => ?_
    have := ((perm_cons_filter_id hids hd).flatMap_right fun d => d.txn.held).count_eq b
    simp [State.count_allBlocks, State.withCurrent, State.removeDeferred, hwf.noCurrent hstate,
      count_held, hpayload, hres, (hheld d hd).1] at this ⊢
    omega
  | takeUrgent r l y e hstate hq _ hpayload hres _ =>
    refine hs.of_count fun b => ?_
    simp [State.count_allBlocks, State.withCurrent, hwf.noCurrent hstate, count_held, hq, hpayload,
      hres]
    omega
  | takeNormal r l y e hstate hq _ hpayload hres _ =>
    refine hs.of_count fun b => ?_
    simp [State.count_allBlocks, State.withCurrent, hwf.noCurrent hstate, count_held, hq, hpayload,
      hres]
    omega
  | takeItem y e hstate _ hpayload hres _ =>
    refine hs.of_count fun b => ?_
    simp [State.count_allBlocks, State.withCurrent, hwf.noCurrent hstate, count_held, hpayload, hres]
  | reserve x n hx hres _ =>
    refine hs.of_count fun b => ?_
    have := count_take_add_drop s.fs.free n b
    simp [State.count_allBlocks, hx, count_held, hres]
    omega
  | endUrgent r l rec hperm hchain =>
    refine hs.of_count fun b => ?_
    have := (hperm.flatMap_right Request.payload).count_eq b
    simp [State.count_allBlocks, State.settleRequest, hchain] at this ⊢
    omega
  | endNormal r l rec hperm hchain =>
    refine hs.of_count fun b => ?_
    have := (hperm.flatMap_right Request.payload).count_eq b
    simp [State.count_allBlocks, State.settleRequest, hchain] at this ⊢
    omega
  | endDeferred d l ex rec hperm _ _ _ hchain =>
    refine hs.of_count fun b => ?_
    have hd : d ∈ s.le.deferred := (hperm hids).mem_iff.mpr List.mem_cons_self
    have := ((hperm hids).flatMap_right fun d => d.txn.held).count_eq b
    simp [State.count_allBlocks, State.settleRequest, hchain, count_held, (hheld d hd).1] at this ⊢
    omega
  | dropDeferred d l ex hperm _ _ hreq =>
    refine hs.of_count fun b => ?_
    have hd : d ∈ s.le.deferred := (hperm hids).mem_iff.mpr List.mem_cons_self
    have hpayload : d.txn.payload = [] := (hheld d hd).2.resolve_left (by simp [hreq])
    have := ((hperm hids).flatMap_right fun d => d.txn.held).count_eq b
    simp [State.count_allBlocks, count_held, (hheld d hd).1, hpayload] at this ⊢
    omega
  | acceptUrgent r n _ _ hpayload =>
    refine hs.of_count fun b => ?_
    have := count_take_add_drop s.fs.free n b
    simp [State.count_allBlocks, hpayload]
    omega
  | acceptNormal r n _ _ hpayload =>
    refine hs.of_count fun b => ?_
    have := count_take_add_drop s.fs.free n b
    simp [State.count_allBlocks, hpayload]
    omega
  | countHoldoffs =>
    refine hs.of_count fun b => ?_
    simp [State.count_allBlocks, State.countHoldoffs, List.flatMap_map, Deferred.countDown_txn]
  | expireEntry d _ _ =>
    refine hs.of_count fun b => ?_
    simp [State.count_allBlocks, State.expireEntry, List.flatMap_map, apply_ite Deferred.txn]
  | retire r l hring =>
    refine hs.of_count fun b => ?_
    simp [retireHead_eq, State.count_allBlocks, hring]
    omega
  | pin i _ =>
    refine hs.of_count fun b => ?_
    have := count_snapshots_set s i { s.snapshot i with pinned := true } b
    simp [State.count_allBlocks, State.setSnapshot, Snapshot.count_held] at this ⊢
    omega
  | unpin i _ =>
    refine hs.of_count fun b => ?_
    rw [unpin_frame]
    cases hnext : (s.snapshot i).next with
    | none =>
      have := count_snapshots_set s i { s.snapshot i with pinned := false } b
      simp [State.count_allBlocks, Snapshot.unpinned, Snapshot.count_held, hnext] at this ⊢
      omega
    | some n =>
      have := count_snapshots_set s i
        { s.snapshot i with pinned := false, current := some n, next := none } b
      simp [State.count_allBlocks, Snapshot.unpinned, Snapshot.count_held, hnext, replyChain] at this ⊢
      omega
  | clear hc _ =>
    have hempty : t.fs.snapshots.toList.flatMap Snapshot.held = [] := by
      rw [hc.snapshots]
      rfl
    simp [State.BlocksAccounted, State.allBlocks, hc.free, hc.urgent, hc.normal, hc.current,
      hc.deferred, hc.queue, hempty, CompletionQueue.reset]
  | _ => exact hs

end Sys2Proof.Machine

/-! PROOF. Move by move: the snapshot records and the cursor (R139, R151, R153, R154), and the replies that
can be read (R28, R131, R148, R158). -/

namespace Sys2Proof.Machine

/-! ## The cursor and the chain under it -/

/-- The chain under a cursor on the head record. -/
theorem State.cursorChain_of_completion {s : State} {p r : BitVec 7} {x : Record} {l : List Record}
    (hcursor : s.fs.cursor = .completion p r) (hring : s.cq.ring = x :: l) :
    s.cursorChain = x.chain := by
  simp only [State.cursorChain, hcursor, hring]

/-- A cursor on the head record that stands on a chain has a head record. -/
theorem State.CursorFits.head {s : State} (h : s.CursorFits) {p r : BitVec 7}
    (hcursor : s.fs.cursor = .completion p r) : ∃ x l, s.cq.ring = x :: l ∧ x.chain ≠ [] := by
  simp only [State.CursorFits, hcursor] at h
  cases hring : s.cq.ring with
  | nil => simp [State.cursorChain, hcursor, hring] at h
  | cons x l =>
    rw [State.cursorChain_of_completion hcursor hring] at h
    exact ⟨x, l, rfl, h⟩

/-- A cursor on a snapshot stands on a pinned current reply. -/
theorem State.CursorFits.pinned {s : State} (h : s.CursorFits) {i : Fin 32} {p r : BitVec 7}
    (hcursor : s.fs.cursor = .snapshot i p r) :
    (s.snapshot i).pinned = true ∧ replyChain (s.snapshot i).current ≠ [] := by
  simpa only [State.CursorFits, State.cursorChain, hcursor] using h

/-- The cursor fits where what stands under it is as it should be, cursor by cursor. -/
theorem State.CursorFits.intro {t : State}
    (hcompletion : ∀ p r, t.fs.cursor = .completion p r → ∃ x l, t.cq.ring = x :: l ∧ x.chain ≠ [])
    (hsnapshot : ∀ i p r, t.fs.cursor = .snapshot i p r →
      (t.snapshot i).pinned = true ∧ replyChain (t.snapshot i).current ≠ []) : t.CursorFits := by
  unfold State.CursorFits
  cases hcursor : t.fs.cursor with
  | completion p r =>
    obtain ⟨x, l, hring, hchain⟩ := hcompletion p r hcursor
    simp only [State.cursorChain, hcursor, hring]
    exact hchain
  | snapshot i p r =>
    simp only [State.cursorChain, hcursor]
    exact hsnapshot i p r hcursor
  | staging | none => trivial

/-- A cursor that stays keeps fitting where the head record stays and pinned records keep their
current reply. -/
theorem State.CursorFits.of_kept {s t : State} (h : s.CursorFits) (hcursor : t.fs.cursor = s.fs.cursor)
    (hring : ∀ x l, s.cq.ring = x :: l → ∃ l', t.cq.ring = x :: l')
    (hpinned : ∀ i, (s.snapshot i).pinned = true →
      (t.snapshot i).pinned = true ∧ (t.snapshot i).current = (s.snapshot i).current) :
    t.CursorFits := by
  refine .intro (fun p r hc => ?_) (fun i p r hc => ?_)
  · obtain ⟨x, l, hhead, hchain⟩ := h.head (hcursor ▸ hc)
    obtain ⟨l', hl'⟩ := hring x l hhead
    exact ⟨x, l', hl', hchain⟩
  · obtain ⟨hpin, hchain⟩ := h.pinned (hcursor ▸ hc)
    obtain ⟨hpin', hcurrent⟩ := hpinned i hpin
    exact ⟨hpin', hcurrent ▸ hchain⟩

/-- Where ring, snapshots and cursor are as before, the cursor fits as before. -/
theorem State.CursorFits.of_same {s t : State} (h : s.CursorFits) (hcq : t.cq.ring = s.cq.ring)
    (hsnapshots : t.fs.snapshots = s.fs.snapshots) (hcursor : t.fs.cursor = s.fs.cursor) :
    t.CursorFits := by
  have hsnapshot (i : Fin 32) : t.snapshot i = s.snapshot i := by rw [State.snapshot, hsnapshots]; rfl
  exact h.of_kept hcursor (fun x l hl => ⟨l, hcq.trans hl⟩) fun i hpin => by simp [hsnapshot, hpin]

/-- A record added at the tail leaves the head, on which the cursor may stand. -/
theorem State.CursorFits.of_appended {s t : State} (h : s.CursorFits) {r : Record}
    (hring : t.cq.ring = s.cq.ring ++ [r]) (hsnapshots : t.fs.snapshots = s.fs.snapshots)
    (hcursor : t.fs.cursor = s.fs.cursor) : t.CursorFits := by
  have hsnapshot (i : Fin 32) : t.snapshot i = s.snapshot i := by rw [State.snapshot, hsnapshots]; rfl
  refine h.of_kept hcursor (fun x l hl => ⟨l ++ [r], by simp [hring, hl]⟩) ?_
  intro i hpin
  simp [hsnapshot, hpin]

/-- A state whose snapshots differ from another's in one record. -/
theorem State.snapshot_of_set {s t : State} {i : Fin 32} {x : Snapshot}
    (h : t.fs.snapshots = s.fs.snapshots.set i x) (j : Fin 32) :
    t.snapshot j = if j = i then x else s.snapshot j := by
  rw [State.snapshot, h]
  exact vector_get_set _ _ _ _

/-- One record that fits in place of another leaves all records fit. -/
theorem State.SnapshotsFit.set {s t : State} (h : s.SnapshotsFit) {i : Fin 32} {x : Snapshot}
    (hset : t.fs.snapshots = s.fs.snapshots.set i x) (hx : x.Fits) : t.SnapshotsFit := by
  intro j
  rw [State.snapshot_of_set hset]
  split_ifs
  · exact hx
  · exact h j

theorem State.SnapshotsFit.of_same {s t : State} (h : s.SnapshotsFit)
    (hsnapshots : t.fs.snapshots = s.fs.snapshots) : t.SnapshotsFit := by
  intro i
  rw [State.snapshot, hsnapshots]
  exact h i

/-- The snapshots of a reset are empty. -/
theorem Cleared.snapshot {t : State} (h : Cleared t) (i : Fin 32) :
    t.snapshot i = Snapshot.reset := by
  rw [State.snapshot, h.snapshots]
  show (Vector.replicate 32 Snapshot.reset)[i.val] = _
  simp

/-- Where the cursor stands once an unpinned record is left: off its chain. -/
theorem Cursor.leaveSnapshot_eq (i : Fin 32) (c : Cursor) :
    (∃ p r, c = .snapshot i p r ∧ c.leaveSnapshot i = .none) ∨
      ((∀ p r, c ≠ .snapshot i p r) ∧ c.leaveSnapshot i = c) := by
  unfold Cursor.leaveSnapshot
  split_ifs with h
  · obtain ⟨p, r, rfl⟩ := (Cursor.onSnapshot_iff c i).mp h
    exact .inl ⟨p, r, rfl, rfl⟩
  · refine .inr ⟨fun p r hc => h ((Cursor.onSnapshot_iff c i).mpr ⟨p, r, hc⟩), rfl⟩

theorem unpin_snapshots (i : Fin 32) (s : State) :
    (unpin i s).fs.snapshots = s.fs.snapshots.set i (s.snapshot i).unpinned := by
  rw [unpin_frame]

theorem unpin_cursor (i : Fin 32) (s : State) :
    (unpin i s).fs.cursor = s.fs.cursor.leaveSnapshot i := by
  rw [unpin_frame]

theorem unpin_cq (i : Fin 32) (s : State) : (unpin i s).cq = s.cq := by
  rw [unpin_frame]

theorem unpin_le (i : Fin 32) (s : State) : (unpin i s).le = s.le := by
  rw [unpin_frame]

/-- Every move keeps the snapshot records and the cursor fit. -/
theorem Move.snapshotsAndCursor {s t : State} (h : Move s t) (hsnap : s.SnapshotsFit)
    (hcur : s.CursorFits) : t.SnapshotsFit ∧ t.CursorFits := by
  cases h with
  | aside hsame _ =>
    exact ⟨hsnap.of_same hsame.snapshots,
      hcur.of_same (by rw [hsame.queue]) hsame.snapshots hsame.cursor⟩
  | post => exact ⟨hsnap, hcur.of_appended rfl rfl rfl⟩
  | endUrgent => exact ⟨hsnap, hcur.of_appended rfl rfl rfl⟩
  | endNormal => exact ⟨hsnap, hcur.of_appended rfl rfl rfl⟩
  | endDeferred => exact ⟨hsnap, hcur.of_appended rfl rfl rfl⟩
  | installCurrent x i r g _ hpin _ _ =>
    obtain ⟨hnext, _⟩ := hsnap i
    refine ⟨hsnap.set rfl ⟨hnext, fun h => absurd h (by simp [hpin])⟩, ?_⟩
    refine hcur.of_kept rfl (fun x l hl => ⟨l, hl⟩) fun j hj => ?_
    have hne : j ≠ i := fun hji => by simp [hji, hpin] at hj
    rw [State.snapshot_of_set rfl, if_neg hne]
    exact ⟨hj, rfl⟩
  | installNext x i r g _ hpin _ _ =>
    obtain ⟨_, hcurrent⟩ := hsnap i
    refine ⟨hsnap.set rfl ⟨fun _ => hpin, hcurrent⟩, ?_⟩
    refine hcur.of_kept rfl (fun x l hl => ⟨l, hl⟩) fun j hj => ?_
    rw [State.snapshot_of_set rfl]
    split_ifs with hji
    · exact ⟨hpin, hji ▸ rfl⟩
    · exact ⟨hj, rfl⟩
  | retire r l hring =>
    rw [retireHead_eq]
    refine ⟨hsnap, .intro ?_ ?_⟩
    · intro p q hc
      simp only [Cursor.leaveCompletion] at hc
      cases hcursor : s.fs.cursor <;> simp [hcursor] at hc
    · intro i p q hc
      refine hcur.pinned (i := i) (p := p) (r := q) ?_
      simp only [Cursor.leaveCompletion] at hc
      cases hcursor : s.fs.cursor <;> simp_all
  | openCompletion r l hring hchain =>
    exact ⟨hsnap, .intro (fun _ _ _ => ⟨r, l, hring, hchain⟩) nofun⟩
  | openSnapshot i r hpin hcurrent hchain =>
    refine ⟨hsnap, .intro nofun fun j p q hc => ?_⟩
    obtain ⟨rfl, -, -⟩ : i = j ∧ _ := by simpa [State.setCursor] using hc
    refine ⟨hpin, ?_⟩
    show replyChain (s.snapshot i).current ≠ []
    rwa [hcurrent]
  | openStaging => exact ⟨hsnap, .intro nofun nofun⟩
  | readCompletion p r hcursor _ =>
    exact ⟨hsnap, .intro (fun _ _ _ => hcur.head hcursor) nofun⟩
  | readSnapshot i p r hcursor _ =>
    refine ⟨hsnap, .intro nofun fun j p' q hc => ?_⟩
    obtain ⟨rfl, -, -⟩ : i = j ∧ _ := by simpa [State.setCursor] using hc
    exact hcur.pinned hcursor
  | pin i hcurrent =>
    obtain ⟨_, _⟩ := hsnap i
    refine ⟨hsnap.set rfl ⟨fun _ => rfl, fun _ => hcurrent⟩, ?_⟩
    refine hcur.of_kept rfl (fun x l hl => ⟨l, hl⟩) fun j hj => ?_
    rw [State.snapshot_setSnapshot]
    split_ifs with hji
    · exact ⟨rfl, hji ▸ rfl⟩
    · exact ⟨hj, rfl⟩
  | unpin i hpin =>
    have hfits : (s.snapshot i).unpinned.Fits := by
      unfold Snapshot.unpinned
      cases (s.snapshot i).next <;> simp [Snapshot.Fits]
    refine ⟨hsnap.set (unpin_snapshots i s) hfits, .intro ?_ ?_⟩
    · intro p r hc
      rw [unpin_cursor] at hc
      rw [unpin_cq]
      rcases s.fs.cursor.leaveSnapshot_eq i with ⟨_, _, _, hnone⟩ | ⟨_, hsame⟩
      · rw [hnone] at hc; cases hc
      · exact hcur.head (hsame ▸ hc)
    · intro j p r hc
      rw [unpin_cursor] at hc
      rcases s.fs.cursor.leaveSnapshot_eq i with ⟨_, _, _, hnone⟩ | ⟨hoff, hsame⟩
      · rw [hnone] at hc; cases hc
      · rw [hsame] at hc
        have hne : j ≠ i := fun hji => hoff p r (hji ▸ hc)
        rw [State.snapshot_of_set (unpin_snapshots i s), if_neg hne]
        exact hcur.pinned hc
  | clear hc _ =>
    refine ⟨fun i => ?_, .intro (fun p r hcursor => ?_) (fun i p r hcursor => ?_)⟩
    · rw [hc.snapshot]
      exact ⟨nofun, nofun⟩
    · rw [hc.cursor] at hcursor; cases hcursor
    · rw [hc.cursor] at hcursor; cases hcursor
  | _ => exact ⟨hsnap, hcur⟩

/-! ## Replies that can be read (R28, R131, R148, R158) -/

/-- What a cursor has read and what remains make up the length of the reply under it (R158). -/
def State.CursorReads (s : State) : Prop :=
  (∀ p r, s.fs.cursor = .completion p r →
    ∃ head rest n, s.cq.ring = head :: rest ∧ head.replyLength = some n ∧
      p.toNat + r.toNat = n.toNat) ∧
  ∀ i p r, s.fs.cursor = .snapshot i p r →
    ∃ x, (s.snapshot i).current = some x ∧ p.toNat + r.toNat = x.length.toNat

/-- Every record's, current and next reply has the blocks its length needs (R131, R148). -/
def State.ChainsFit (s : State) : Prop :=
  (∀ t, s.le.current = some t → t.reservation.length ≤ 3) ∧
    (∀ r ∈ s.cq.ring, r.ChainFits) ∧
    (∀ i, ∀ x ∈ (s.snapshot i).current, x.ChainFits) ∧
    ∀ i, ∀ x ∈ (s.snapshot i).next, x.ChainFits

theorem State.repliesFit_iff (s : State) : s.RepliesFit ↔ s.ChainsFit ∧ s.CursorReads := by
  have hreads : s.CursorReads ↔
      match s.fs.cursor with
      | .completion p r =>
        ∃ head rest n, s.cq.ring = head :: rest ∧ head.replyLength = some n ∧
          p.toNat + r.toNat = n.toNat
      | .snapshot i p r =>
        ∃ x, (s.snapshot i).current = some x ∧ p.toNat + r.toNat = x.length.toNat
      | .staging | .none => True := by
    unfold State.CursorReads
    cases s.fs.cursor <;> simp
  rw [hreads, State.RepliesFit, State.ChainsFit]
  constructor
  · rintro ⟨h1, h2, h3, h4, h5⟩
    exact ⟨⟨h1, h2, h3, h4⟩, h5⟩
  · rintro ⟨⟨h1, h2, h3, h4⟩, h5⟩
    exact ⟨h1, h2, h3, h4, h5⟩

/-- A cursor that stays reads on where the head record and every pinned current reply stay. -/
theorem State.CursorReads.of_kept {s t : State} (h : s.CursorReads) (hfits : s.CursorFits)
    (hcursor : t.fs.cursor = s.fs.cursor)
    (hring : ∀ x l, s.cq.ring = x :: l → ∃ l', t.cq.ring = x :: l')
    (hpinned : ∀ i, (s.snapshot i).pinned = true →
      (t.snapshot i).current = (s.snapshot i).current) : t.CursorReads := by
  obtain ⟨hcompletion, hsnapshot⟩ := h
  refine ⟨fun p r hc => ?_, fun i p r hc => ?_⟩
  · obtain ⟨x, l, n, hhead, hrest⟩ := hcompletion p r (hcursor ▸ hc)
    obtain ⟨l', hl'⟩ := hring x l hhead
    exact ⟨x, l', n, hl', hrest⟩
  · rw [hcursor] at hc
    rw [hpinned i (hfits.pinned hc).1]
    exact hsnapshot i p r hc

theorem State.ChainsFit.of_same {s t : State} (h : s.ChainsFit)
    (hcurrent : ∀ x, t.le.current = some x → x.reservation.length ≤ 3)
    (hring : t.cq.ring = s.cq.ring) (hsnapshots : t.fs.snapshots = s.fs.snapshots) :
    t.ChainsFit := by
  obtain ⟨_, hrecords, hcur, hnext⟩ := h
  have hsnapshot (i : Fin 32) : t.snapshot i = s.snapshot i := by rw [State.snapshot, hsnapshots]; rfl
  refine ⟨hcurrent, by rwa [hring], fun i => ?_, fun i => ?_⟩
  · rw [hsnapshot]; exact hcur i
  · rw [hsnapshot]; exact hnext i

theorem State.ChainsFit.of_appended {s t : State} (h : s.ChainsFit)
    (hcurrent : ∀ x, t.le.current = some x → x.reservation.length ≤ 3) {r : Record}
    (hring : t.cq.ring = s.cq.ring ++ [r]) (hr : r.ChainFits)
    (hsnapshots : t.fs.snapshots = s.fs.snapshots) : t.ChainsFit := by
  obtain ⟨_, hrecords, hcur, hnext⟩ := h
  have hsnapshot (i : Fin 32) : t.snapshot i = s.snapshot i := by rw [State.snapshot, hsnapshots]; rfl
  refine ⟨hcurrent, ?_, fun i => ?_, fun i => ?_⟩
  · rw [hring]
    intro x hx
    rcases List.mem_append.mp hx with hx | hx
    · exact hrecords x hx
    · exact List.mem_singleton.mp hx ▸ hr
  · rw [hsnapshot]; exact hcur i
  · rw [hsnapshot]; exact hnext i

theorem State.ChainsFit.set {s t : State} (h : s.ChainsFit)
    (hcurrent : ∀ x, t.le.current = some x → x.reservation.length ≤ 3)
    (hring : t.cq.ring = s.cq.ring) {i : Fin 32} {y : Snapshot}
    (hset : t.fs.snapshots = s.fs.snapshots.set i y) (hy : ∀ x ∈ y.current, x.ChainFits)
    (hy' : ∀ x ∈ y.next, x.ChainFits) : t.ChainsFit := by
  obtain ⟨_, hrecords, hcur, hnext⟩ := h
  refine ⟨hcurrent, by rwa [hring], fun j => ?_, fun j => ?_⟩
  · rw [State.snapshot_of_set hset]
    split_ifs
    · exact hy
    · exact hcur j
  · rw [State.snapshot_of_set hset]
    split_ifs
    · exact hy'
    · exact hnext j

/-- Every move keeps the chains of the replies as long as their lengths need. -/
theorem Move.chainsFit {s t : State} (h : Move s t) (hs : s.ChainsFit) : t.ChainsFit := by
  have ⟨hres, hrecords, hcur, hnext⟩ := hs
  have one (x : Transaction) (hx : x.reservation.length ≤ 3) (y : Transaction)
      (hy : some x = some y) : y.reservation.length ≤ 3 := Option.some.inj hy ▸ hx
  have empty (u : State) (hu : u.le.current = none) (y : Transaction)
      (hy : u.le.current = some y) : y.reservation.length ≤ 3 := by
    rw [hu] at hy
    cases hy
  cases h with
  | aside hsame _ =>
    exact hs.of_same (by rw [hsame.current]; exact hres) (by rw [hsame.queue]) hsame.snapshots
  | retouch x y hx _ _ hsame => exact hs.of_same (one y (hsame ▸ hres x hx)) rfl rfl
  | freePayload x hx => exact hs.of_same (one _ (hres x hx)) rfl rfl
  | freeReservation x n hx =>
    have := hres x hx
    refine hs.of_same (one _ ?_) rfl rfl
    simp only [List.length_take]
    omega
  | post x r e hx _ _ _ hfits _ => exact hs.of_appended (empty _ rfl) rfl (hfits (hres x hx)) rfl
  | drop => exact hs.of_same (empty _ rfl) rfl rfl
  | installCurrent x i r g hx _ _ hfits =>
    refine hs.set (one _ (by simp)) rfl rfl ?_ (hnext i)
    rintro y ⟨⟩
    exact hfits (hres x hx)
  | installNext x i r g hx _ _ hfits =>
    refine hs.set (one _ (by simp)) rfl rfl (hcur i) ?_
    rintro y ⟨⟩
    exact hfits (hres x hx)
  | defer => exact hs.of_same (empty _ rfl) rfl rfl
  | takeDeferred d y e _ _ _ _ hy _ => exact hs.of_same (one y (by simp [hy])) rfl rfl
  | takeUrgent r l y e _ _ _ _ hy _ => exact hs.of_same (one y (by simp [hy])) rfl rfl
  | takeNormal r l y e _ _ _ _ hy _ => exact hs.of_same (one y (by simp [hy])) rfl rfl
  | takeItem y e _ _ _ hy _ => exact hs.of_same (one y (by simp [hy])) rfl rfl
  | reserve x n _ _ hn =>
    refine hs.of_same (one _ ?_) rfl rfl
    simp only [List.length_take]
    omega
  | endUrgent r l rec _ hchain => exact hs.of_appended hres rfl (.inl hchain) rfl
  | endNormal r l rec _ hchain => exact hs.of_appended hres rfl (.inl hchain) rfl
  | endDeferred d l ex rec _ _ _ _ hchain => exact hs.of_appended hres rfl (.inl hchain) rfl
  | retire r l hring =>
    rw [retireHead_eq]
    refine ⟨hres, fun x hx => hrecords x ?_, hcur, hnext⟩
    rw [hring]
    exact List.mem_cons_of_mem _ hx
  | pin i _ => exact hs.set hres rfl rfl (hcur i) (hnext i)
  | unpin i _ =>
    refine hs.set (by rw [unpin_le]; exact hres) (by rw [unpin_cq]) (unpin_snapshots i s) ?_ ?_
    · unfold Snapshot.unpinned
      cases h : (s.snapshot i).next with
      | none => exact hcur i
      | some n =>
        rintro y ⟨⟩
        exact hnext i n h
    · unfold Snapshot.unpinned
      cases h : (s.snapshot i).next with
      | none => simp
      | some n => simp
  | clear hc _ =>
    refine ⟨by simp [hc.current], by simp [hc.queue, CompletionQueue.reset], fun i => ?_, fun i => ?_⟩
    · rw [hc.snapshot]; simp [Snapshot.reset]
    · rw [hc.snapshot]; simp [Snapshot.reset]
  | _ => exact ⟨hres, hrecords, hcur, hnext⟩

/-- Reading one byte of those that remain moves the position on by it. -/
theorem cursor_advance {p r n : BitVec 7} (h : p.toNat + r.toNat = n.toNat) (hr : r ≠ 0) :
    (p + 1).toNat + (r - 1).toNat = n.toNat := by
  have : r.toNat ≠ 0 := fun h0 => hr (BitVec.eq_of_toNat_eq h0)
  bv_omega

/-- Every move keeps the cursor at a place its reply has. -/
theorem Move.cursorReads {s t : State} (h : Move s t) (hcur : s.CursorFits) (hchains : s.ChainsFit)
    (hs : s.CursorReads) : t.CursorReads := by
  have ⟨hcompletion, hsnapshot⟩ := hs
  have appended (u : State) (r : Record) (hring : u.cq.ring = s.cq.ring ++ [r])
      (hsn : u.fs.snapshots = s.fs.snapshots) (hc : u.fs.cursor = s.fs.cursor) : u.CursorReads :=
    hs.of_kept hcur hc (fun x l hl => ⟨l ++ [r], by simp [hring, hl]⟩) fun i _ => by
      rw [State.snapshot, hsn]; rfl
  cases h with
  | aside hsame _ =>
    refine hs.of_kept hcur hsame.cursor (fun x l hl => ⟨l, by rw [hsame.queue, hl]⟩) fun i _ => ?_
    rw [State.snapshot, hsame.snapshots]
    rfl
  | post x r => exact appended _ r rfl rfl rfl
  | endUrgent _ _ rec => exact appended _ rec rfl rfl rfl
  | endNormal _ _ rec => exact appended _ rec rfl rfl rfl
  | endDeferred _ _ _ rec => exact appended _ rec rfl rfl rfl
  | installCurrent x i r g _ hpin _ _ =>
    refine hs.of_kept hcur rfl (fun x l hl => ⟨l, hl⟩) fun j hj => ?_
    have hne : j ≠ i := fun hji => by simp [hji, hpin] at hj
    rw [State.snapshot_of_set rfl, if_neg hne]
  | installNext x i r g _ hpin _ _ =>
    refine hs.of_kept hcur rfl (fun x l hl => ⟨l, hl⟩) fun j hj => ?_
    rw [State.snapshot_of_set rfl]
    split_ifs with hji
    · exact hji ▸ rfl
    · rfl
  | retire r l hring =>
    rw [retireHead_eq]
    refine ⟨fun p q hc => ?_, fun i p q hc => hsnapshot i p q ?_⟩
    · simp only [Cursor.leaveCompletion] at hc
      cases hcursor : s.fs.cursor <;> simp [hcursor] at hc
    · simp only [Cursor.leaveCompletion] at hc
      cases hcursor : s.fs.cursor <;> simp_all
  | openCompletion r l hring hchain =>
    refine ⟨fun p q hc => ?_, nofun⟩
    obtain ⟨_, hrecords, _, _⟩ := hchains
    obtain ⟨n, hn, -⟩ := (hrecords r (by simp [hring])).resolve_left hchain
    obtain ⟨rfl, rfl⟩ : 0 = p ∧ r.replyLength.getD 0 = q := by simpa [State.setCursor] using hc
    exact ⟨r, l, n, hring, hn, by simp [hn]⟩
  | openSnapshot i r _ hcurrent _ =>
    refine ⟨nofun, fun j p q hc => ?_⟩
    obtain ⟨rfl, rfl, rfl⟩ : i = j ∧ 0 = p ∧ r.length = q := by simpa [State.setCursor] using hc
    exact ⟨r, hcurrent, by simp⟩
  | openStaging => exact ⟨nofun, nofun⟩
  | readCompletion p r hcursor hr =>
    refine ⟨fun p' q hc => ?_, nofun⟩
    obtain ⟨x, l, n, hring, hn, hsum⟩ := hcompletion p r hcursor
    obtain ⟨rfl, rfl⟩ : p + 1 = p' ∧ r - 1 = q := by simpa [State.setCursor] using hc
    exact ⟨x, l, n, hring, hn, cursor_advance hsum hr⟩
  | readSnapshot i p r hcursor hr =>
    refine ⟨nofun, fun j p' q hc => ?_⟩
    obtain ⟨x, hx, hsum⟩ := hsnapshot i p r hcursor
    obtain ⟨rfl, rfl, rfl⟩ : i = j ∧ p + 1 = p' ∧ r - 1 = q := by simpa [State.setCursor] using hc
    exact ⟨x, hx, cursor_advance hsum hr⟩
  | pin i _ =>
    refine hs.of_kept hcur rfl (fun x l hl => ⟨l, hl⟩) fun j hj => ?_
    rw [State.snapshot_setSnapshot]
    split_ifs with hji
    · exact hji ▸ rfl
    · rfl
  | unpin i _ =>
    refine ⟨fun p r hc => ?_, fun j p r hc => ?_⟩
    · rw [unpin_cursor] at hc
      rw [unpin_cq]
      rcases s.fs.cursor.leaveSnapshot_eq i with ⟨_, _, _, hnone⟩ | ⟨_, hsame⟩
      · rw [hnone] at hc; cases hc
      · exact hcompletion p r (hsame ▸ hc)
    · rw [unpin_cursor] at hc
      rcases s.fs.cursor.leaveSnapshot_eq i with ⟨_, _, _, hnone⟩ | ⟨hoff, hsame⟩
      · rw [hnone] at hc; cases hc
      · rw [hsame] at hc
        have hne : j ≠ i := fun hji => hoff p r (hji ▸ hc)
        rw [State.snapshot_of_set (unpin_snapshots i s), if_neg hne]
        exact hsnapshot j p r hc
  | clear hc _ =>
    refine ⟨fun p r hcursor => ?_, fun i p r hcursor => ?_⟩
    · rw [hc.cursor] at hcursor; cases hcursor
    · rw [hc.cursor] at hcursor; cases hcursor
  | _ => exact hs

end Sys2Proof.Machine

/-! PROOF. The moment of a choice as a chain of moves: forming the offer (R98 to R101), turning a candidate
away (R114), dispatching one (R118), and what all of this leaves alone (R109). -/

namespace Sys2Proof.Machine

/-! ## Chains of moves that leave the frame -/

/-- What no event of time and no report changes: the pins, the parameters, the time base, the count of
the sample-rate divider, and the commands waiting. -/
structure SameFrame (s t : State) : Prop where
  pins : t.pins = s.pins
  params : t.le.params = s.le.params
  timeBase : t.tb = s.tb
  sampleLeft : t.li.sampleLeft = s.li.sampleLeft
  pending : t.pending = s.pending
  /-- No old divisor begins: only a change of the divisor begins one (R2). -/
  oldRate : s.li.oldRate = none → t.li.oldRate = none

theorem SameFrame.refl (s : State) : SameFrame s s := ⟨rfl, rfl, rfl, rfl, rfl, id⟩

theorem SameFrame.trans {s t u : State} (h : SameFrame s t) (k : SameFrame t u) : SameFrame s u :=
  ⟨k.pins.trans h.pins, k.params.trans h.params, k.timeBase.trans h.timeBase,
    k.sampleLeft.trans h.sampleLeft, k.pending.trans h.pending, k.oldRate ∘ h.oldRate⟩

/-- A chain of moves that leaves the frame. -/
structure Path (s t : State) : Prop where
  moves : Moves s t
  frame : SameFrame s t

theorem Path.refl (s : State) : Path s s := ⟨.refl s, .refl s⟩

theorem Path.trans {s t u : State} (h : Path s t) (k : Path t u) : Path s u :=
  ⟨h.moves.trans k.moves, h.frame.trans k.frame⟩

theorem Move.path {s t : State} (h : Move s t) (hframe : SameFrame s t) : Path s t :=
  ⟨h.moves, hframe⟩

theorem SameAccounts.refl (s : State) : SameAccounts s s :=
  ⟨rfl, rfl, rfl, rfl, rfl, rfl, rfl, rfl, rfl, rfl, rfl⟩

/-- What the accounts do not speak of may change, under its own invariants. -/
theorem Path.aside {s t : State} (hsame : SameAccounts s t) (hkept : FieldsKept s t)
    (hframe : SameFrame s t) : Path s t := (Move.aside hsame hkept).path hframe

/-- The Line Interface's dividers stay: the count of the one, and no old divisor begins (R2). -/
def LineInterface.KeepsDividers (l m : LineInterface) : Prop :=
  m.sampleLeft = l.sampleLeft ∧ (l.oldRate = none → m.oldRate = none)

/-- The Line Interface may change, but for its dividers. -/
theorem path_li (s : State) (l : LineInterface) (h : s.li.KeepsDividers l) :
    Path s { s with li := l } :=
  .aside ⟨rfl, rfl, rfl, rfl, rfl, rfl, rfl, rfl, rfl, rfl, rfl⟩
    (.of_same rfl rfl rfl rfl rfl rfl) ⟨rfl, rfl, rfl, h.1, rfl, h.2⟩

/-- What the engine keeps of an attempt may change. -/
theorem path_attempt (s : State) (a : Attempt) :
    Path s { s with le := { s.le with attempt := a } } :=
  .aside ⟨rfl, rfl, rfl, rfl, rfl, rfl, rfl, rfl, rfl, rfl, rfl⟩
    (.of_same rfl rfl rfl rfl rfl rfl) ⟨rfl, rfl, rfl, rfl, rfl, id⟩

/-- The event is an occurrence: it has a latch (R167, R168). -/
def Event.Occurs (e : Event) : Prop := e.bit &&& ~~~occurrenceMask = 0

/-- The latch of an occurrence leaves the conditions without one. -/
theorem latches_or_bit {v : BitVec 12} {e : Event} (h : v &&& ~~~occurrenceMask = 0)
    (he : e.Occurs) : (v ||| e.bit) &&& ~~~occurrenceMask = 0 := by
  have he' : e.bit &&& ~~~occurrenceMask = 0 := he
  rw [BitVec.and_or_distrib_right, h, he']
  rfl

theorem raise_kept (s : State) {e : Event} (he : e.Occurs) : FieldsKept s (s.raise e) where
  memory h := h
  latches h := latches_or_bit h he
  params h := h
  notices h := h
  staging h := h
  stations h k := ⟨h, k⟩

theorem path_raise (s : State) {e : Event} (he : e.Occurs) : Path s (s.raise e) :=
  .aside ⟨rfl, rfl, rfl, rfl, rfl, rfl, rfl, rfl, rfl, rfl, rfl⟩ (raise_kept s he)
    ⟨rfl, rfl, rfl, rfl, rfl, id⟩

theorem path_raiseIf (s : State) (c : Bool) {e : Event} (he : e.Occurs) :
    Path s (s.raiseIf c e) := by
  cases c with
  | false => exact .refl s
  | true => exact path_raise s he

/-! ## Station entries -/

/-- The entry is as R66 and R74 say. -/
def Station.Fits (e : Station) : Prop := e.configFits = true ∧ e.failCountFits = true

/-- One entry in place of another keeps fitness, and the address of a configured one. -/
structure Station.Kept (e e' : Station) : Prop where
  fits : e.Fits → e'.Fits
  address : e'.state ≠ .unconfigured → e.state ≠ .unconfigured ∧ e'.address = e.address

theorem Station.Kept.refl (e : Station) : e.Kept e := ⟨id, fun h => ⟨h, rfl⟩⟩

/-- The invariants of the entries are kept where each entry is. -/
theorem stations_kept {s t : State} (h : ∀ i, (s.station i).Kept (t.station i))
    (hfit : s.StationsFit) (haddress : s.AddressesDistinct) :
    t.StationsFit ∧ t.AddressesDistinct := by
  refine ⟨fun i => (h i).fits (hfit i), fun i j hi hj hij => ?_⟩
  obtain ⟨hi', hai⟩ := (h i).address hi
  obtain ⟨hj', haj⟩ := (h j).address hj
  exact haddress i j hi' hj' (by rw [← hai, ← haj, hij])

/-- An entry of which only what no rule judges changes: class, retries, busy limit, countdown, toggle
and what was last heard; an UNCONFIGURED one is as after reset, and stays so. -/
theorem Station.Kept.of_unjudged {e e' : Station} (haddress : e'.address = e.address)
    (hfail : e'.failLimit = e.failLimit) (hblocks : e'.replyBlocks = e.replyBlocks)
    (hprobe : e'.probeInterval = e.probeInterval) (hstate : e'.state = e.state)
    (hcount : e'.failCount = e.failCount) (hreset : e = Station.reset → e' = Station.reset) :
    e.Kept e' := by
  refine ⟨?_, fun h => ⟨hstate ▸ h, haddress⟩⟩
  rintro ⟨hconfig, hfailCount⟩
  constructor
  · unfold Station.configFits at hconfig ⊢
    rw [hstate, haddress, hfail, hblocks, hprobe]
    split_ifs with hun
    · rw [if_pos hun] at hconfig
      exact decide_eq_true (hreset (of_decide_eq_true hconfig))
    · rwa [if_neg hun] at hconfig
  · unfold Station.failCountFits at hfailCount ⊢
    rwa [hstate, hcount, hfail]

/-- Only the countdown differs, and only where the entry is OFFLINE. -/
structure Station.Recount (e e' : Station) : Prop where
  countdown : e' = { e with countdown := e'.countdown }
  offline : e.state ≠ .offline → e' = e

theorem Station.Recount.refl (e : Station) : e.Recount e := ⟨rfl, fun _ => rfl⟩

theorem Station.Recount.state {e e' : Station} (h : e.Recount e') : e'.state = e.state := by
  rw [h.countdown]

theorem Station.Recount.trans {e f g : Station} (h : e.Recount f) (k : f.Recount g) :
    e.Recount g := by
  refine ⟨?_, fun he => (k.offline (h.state ▸ he)).trans (h.offline he)⟩
  rw [k.countdown, h.countdown]

theorem Station.Recount.kept {e e' : Station} (h : e.Recount e') : e.Kept e' := by
  rw [h.countdown]
  refine .of_unjudged rfl rfl rfl rfl rfl rfl fun he => ?_
  rw [← h.countdown, h.offline (by rw [he]; decide), he]

/-- The countdown of an OFFLINE entry may be given any value. -/
theorem Station.Recount.of_offline {e : Station} (h : e.state = .offline) (c : BitVec 8) :
    e.Recount { e with countdown := c } := ⟨rfl, fun hne => absurd h hne⟩

theorem Station.recount_countDown (e : Station) : e.Recount e.countDown := by
  unfold Station.countDown
  split_ifs with h
  · exact .of_offline h.1 _
  · exact .refl e

/-! ## The cycle (R98 to R101) -/

/-- The Cycle Unit goes on: nothing changes but its own fields other than the banks, the countdowns,
and the latches of occurrences. -/
def CycleChange (s t : State) : Prop :=
  ∃ (c : CycleUnit) (v : Vector Station 32) (l : BitVec 12),
    t = { s with cu := c, st := { s.st with entries := v }, eu := { s.eu with latches := l } } ∧
    c.bankA = s.cu.bankA ∧ c.bankB = s.cu.bankB ∧ (∀ i, (s.station i).Recount (v.get i)) ∧
    (s.LatchesFit → l &&& ~~~occurrenceMask = 0)

theorem CycleChange.trans {s t u : State} (h : CycleChange s t) (k : CycleChange t u) :
    CycleChange s u := by
  obtain ⟨c, v, l, rfl, hA, hB, hv, hl⟩ := h
  obtain ⟨c', v', l', rfl, hA', hB', hv', hl'⟩ := k
  exact ⟨c', v', l', rfl, hA'.trans hA, hB'.trans hB, fun i => (hv i).trans (hv' i),
    fun h => hl' (hl h)⟩

/-- Fields of the Cycle Unit other than the banks change. -/
theorem CycleChange.of_cu (s : State) (c : CycleUnit) (hA : c.bankA = s.cu.bankA)
    (hB : c.bankB = s.cu.bankB) : CycleChange s { s with cu := c } :=
  ⟨c, s.st.entries, s.eu.latches, rfl, hA, hB, fun _ => .refl _, id⟩

theorem CycleChange.refl (s : State) : CycleChange s s := .of_cu s s.cu rfl rfl

theorem CycleChange.of_raise (s : State) {e : Event} (he : e.Occurs) : CycleChange s (s.raise e) :=
  ⟨s.cu, s.st.entries, s.eu.latches ||| e.bit, rfl, rfl, rfl, fun _ => .refl _,
    fun h => latches_or_bit h he⟩

/-- A cycle start counts the countdowns down and sets the walk up (R75, R96, R97). -/
theorem cycleStart_change (s : State) : CycleChange s s.cycleStart := by
  unfold State.cycleStart State.mapStations
  refine ⟨_, _, _, rfl, rfl, rfl, fun i => ?_, id⟩
  rw [vector_get_ofFn]
  exact Station.recount_countDown _

theorem loadTimer_change (s : State) : CycleChange s s.loadTimer := .of_cu s _ rfl rfl

theorem exchangeBanks_change (s : State) : CycleChange s s.exchangeBanks := .of_cu s _ rfl rfl

theorem cycleStartLoading_change (s : State) : CycleChange s s.cycleStartLoading := by
  unfold State.cycleStartLoading
  split_ifs
  · exact (loadTimer_change s).trans (cycleStart_change _)
  · exact cycleStart_change s

theorem cycleEnd_change (s : State) : CycleChange s s.cycleEnd := by
  have hraise : CycleChange s (s.raise .cycleEnd) := .of_raise s rfl
  have hswap : CycleChange s
      (if (s.raise .cycleEnd).cu.swapPending then (s.raise .cycleEnd).exchangeBanks
        else s.raise .cycleEnd) := by
    split_ifs
    · exact hraise.trans (exchangeBanks_change _)
    · exact hraise
  unfold State.cycleEnd
  simp only
  split_ifs at hswap ⊢
  all_goals first
    | exact (hswap.trans (.of_cu _ _ rfl rfl)).trans (cycleStartLoading_change _)
    | exact hswap.trans (cycleStartLoading_change _)
    | exact hswap.trans (.of_cu _ _ rfl rfl)

theorem formOffer_change (s : State) : CycleChange s s.formOffer := by
  refine formOffer_induct (CycleChange s) ?_ ?_ ?_ ?_ s (.refl s)
  · exact fun t p h => h.trans (.of_cu t _ rfl rfl)
  · exact fun t p h => h.trans (.of_cu t _ rfl rfl)
  · exact fun t p h => h.trans (.of_cu t _ rfl rfl)
  · exact fun t h => h.trans (cycleEnd_change t)

/-- A station's countdown is given a value while it is OFFLINE. -/
theorem CycleChange.of_station (s : State) (i : Fin 32) (c : BitVec 8)
    (h : (s.station i).state = .offline) :
    CycleChange s (s.setStation i { s.station i with countdown := c }) := by
  refine ⟨s.cu, _, s.eu.latches, rfl, rfl, rfl, fun j => ?_, id⟩
  rw [vector_get_set]
  split_ifs with hji
  · exact hji ▸ .of_offline h c
  · exact .refl _

theorem takeOffer_change (o : Offer) (s : State) : CycleChange s (s.takeOffer o) := by
  cases o with
  | slot x => exact (CycleChange.of_cu s _ rfl rfl).trans (formOffer_change _)
  | probe i =>
    unfold State.takeOffer
    simp only
    split_ifs with h
    · exact ((CycleChange.of_station s i _ h).trans (.of_cu _ _ rfl rfl)).trans (formOffer_change _)
    · exact (CycleChange.of_cu s _ rfl rfl).trans (formOffer_change _)

theorem CycleChange.kept {s t : State} (h : CycleChange s t) : FieldsKept s t := by
  obtain ⟨c, v, l, rfl, -, -, hv, hl⟩ := h
  exact ⟨id, hl, id, id, id, stations_kept fun i => (hv i).kept⟩

theorem CycleChange.path {s t : State} (h : CycleChange s t) : Path s t := by
  have hkept := h.kept
  obtain ⟨c, v, l, rfl, -⟩ := h
  exact .aside ⟨rfl, rfl, rfl, rfl, rfl, rfl, rfl, rfl, rfl, rfl, rfl⟩ hkept ⟨rfl, rfl, rfl, rfl, rfl, id⟩

/-! ## The start of an attempt (R8, R38, R39) -/

/-- The attempt that starts: its address, its toggle and its CONTROL, and the check begun (R19, R22). -/
def State.beginAttempt (s : State) (x : Transaction) : Attempt :=
  let address := match x.target with
    | some i => (s.station i).address
    | none => 0
  let toggle := match x.target with
    | some i => decide (x.kind = .write) && (s.station i).toggle
    | none => false
  { Attempt.blank with
    address := address
    control := controlByte x.kind toggle
    toggle := toggle
    sent := 1
    sendCheck := checkFeed 0xFFFF#16 address }

/-- The first character of an attempt: its ADDRESS, with mark 1. -/
def Attempt.first (a : Attempt) : TxChar := { data := a.address, mark := true }

/-- The attempt as its first start bit finds it: a TIMESYNC latches the tick counter (R24). -/
def Attempt.latchedFor (a : Attempt) (x : Transaction) (stamp : Stamp) : Attempt :=
  if x.kind = .timesync then { a with latched := stamp } else a

/-- With a turnaround, or while the clock stands, the driver is enabled and the turnaround runs. -/
theorem startAttempt_waits (x : Transaction) (s : State)
    (h : s.le.params.turnaround ≠ 0 ∨ s.pins.clock = false) :
    startAttempt x s =
      { s with
        li := { s.li.driverOrdered s.pins.clock with
          tx := .turnaround (16 * s.le.params.turnaround.toNat)
          supplied := some (s.beginAttempt x).first }
        le := { s.le with
          state := .turnaround, current := some x, attempt := s.beginAttempt x } } := by
  unfold startAttempt State.startIfElapsed
  simp only [State.openOrder]
  split
  · rename_i c htx _
    have hzero : s.le.params.turnaround = 0 := by
      have : 16 * s.le.params.turnaround.toNat = 0 := by simpa [Config.samplesPerBit] using htx
      exact BitVec.eq_of_toNat_eq (by simp; omega)
    simp only [h.resolve_left (not_not_intro hzero), Bool.false_eq_true, if_false]
    rfl
  · rfl

/-- With a turnaround of 0 and the clock running, the first start bit begins at once. -/
theorem startAttempt_begins (x : Transaction) (s : State) (h : s.le.params.turnaround = 0)
    (hclock : s.pins.clock = true) :
    startAttempt x s =
      { s with
        li := (s.li.driverOrdered s.pins.clock).beginChar (s.beginAttempt x).first
        le := { s.le with
          state := .sending
          current := some x
          attempt := (s.beginAttempt x).latchedFor x s.tb.counter } } := by
  unfold startAttempt State.startIfElapsed
  simp only [State.openOrder, h, hclock, if_true, firstStart, State.latchTick, Attempt.latchedFor]
  split_ifs <;> rfl

/-- The start of an attempt leaves an engine that holds the transaction, and an ACTIVE monitor. -/
theorem startAttempt_change (x : Transaction) (s : State) :
    ∃ (l : LineInterface) (e : EngineState) (a : Attempt),
      startAttempt x s =
        { s with li := l, le := { s.le with state := e, current := some x, attempt := a } } ∧
      e.holds = true ∧ l.monitor = .active ∧ s.li.KeepsDividers l := by
  by_cases h : s.le.params.turnaround = 0 ∧ s.pins.clock = true
  · exact ⟨_, _, _, startAttempt_begins x s h.1 h.2, rfl, rfl, rfl, fun _ => rfl⟩
  · have h' : s.le.params.turnaround ≠ 0 ∨ s.pins.clock = false := by
      rcases not_and_or.mp h with h | h
      · exact .inl h
      · exact .inr (by simpa using h)
    exact ⟨_, _, _, startAttempt_waits x s h', rfl, rfl, rfl, id⟩

/-! ## The candidate (R110) and its check (R114) -/

/-- Where a candidate comes from. -/
theorem candidate_cases {s : State} {c : Candidate} (h : s.candidate = some c) :
    (∃ d, c = .deferred d ∧ d ∈ s.le.deferred) ∨
    (∃ r l, c = .urgent r l ∧ s.ru.urgent = r :: l) ∨
    (∃ r l, c = .normal r l ∧ s.ru.normal = r :: l) ∨
    ∃ o, c = .offer o ∧ s.offer = some o := by
  have hhead (h : s.normalHead = some c) : ∃ r l, c = .normal r l ∧ s.ru.normal = r :: l := by
    cases hq : s.ru.normal with
    | nil => rw [s.normalHead_of_nil hq] at h; cases h
    | cons r l =>
      rw [s.normalHead_of_cons hq, Option.some.injEq] at h
      exact ⟨r, l, h.symm, rfl⟩
  cases hold : s.oldestExpired with
  | some d =>
    rw [s.candidate_of_oldestExpired hold, Option.some.injEq] at h
    refine .inl ⟨d, h.symm, ?_⟩
    unfold State.oldestExpired at hold
    split at hold
    · cases hold
    · exact List.mem_of_find?_eq_some hold
  | none =>
    cases hq : s.ru.urgent with
    | cons r l =>
      simp only [State.candidate, hold, hq, Option.some.injEq] at h
      exact .inr (.inl ⟨r, l, h.symm, rfl⟩)
    | nil =>
      simp only [State.candidate, hold, hq, State.normalOrOffer] at h
      split_ifs at h
      · exact .inr (.inr (.inl (hhead h)))
      · cases ho : s.offer with
        | some o =>
          rw [ho, Option.some.injEq] at h
          exact .inr (.inr (.inr ⟨o, h.symm, rfl⟩))
        | none =>
          rw [ho] at h
          exact .inr (.inr (.inl (hhead h)))

/-- What the check leaves of a candidate that it ends (R53, R113, R114). -/
theorem turnedAway_cases {s t : State} {c : Candidate} (h : c.turnedAway s = some t) :
    (∃ d tag o, c = .deferred d ∧ d.txn.origin = .request tag ∧
      t = ((s.removeDeferred d.id).freeChain d.txn.payload).post (d.txn.record tag o false)) ∨
    (∃ d, c = .deferred d ∧ d.txn.isRequest = false ∧ t = s.removeDeferred d.id) ∨
    (∃ r l o, c = .urgent r l ∧
      t = ({ s with ru := { s.ru with urgent := l } } : State).endQueued r o false) ∨
    ∃ r l o, c = .normal r l ∧
      t = ({ s with ru := { s.ru with normal := l } } : State).endQueued r o false := by
  cases c with
  | deferred d =>
    unfold Candidate.turnedAway at h
    simp only at h
    split at h
    · rename_i tag horigin
      obtain ⟨o, -, rfl⟩ := Option.map_eq_some_iff.mp h
      exact .inl ⟨d, tag, o, rfl, horigin, by simp only [State.endDeferred, horigin]⟩
    · rename_i horigin
      split_ifs at h
      exact .inr (.inl ⟨d, rfl, by simp [Transaction.isRequest, horigin], (Option.some.inj h).symm⟩)
    · rename_i horigin
      split_ifs at h
      exact .inr (.inl ⟨d, rfl, by simp [Transaction.isRequest, horigin], (Option.some.inj h).symm⟩)
    · cases h
  | urgent r l =>
    obtain ⟨o, -, rfl⟩ := Option.map_eq_some_iff.mp h
    exact .inr (.inr (.inl ⟨r, l, o, rfl, rfl⟩))
  | normal r l =>
    obtain ⟨o, -, rfl⟩ := Option.map_eq_some_iff.mp h
    exact .inr (.inr (.inr ⟨r, l, o, rfl, rfl⟩))
  | offer o => cases h

/-- A request of the urgent queue that ends is a move, and its posting an occurrence. -/
theorem endUrgent_path (s : State) (r : Request) (l : List Request) (o : ReqOutcome) (cancel : Bool)
    (h : s.ru.urgent.Perm (r :: l)) :
    Path s (({ s with ru := { s.ru with urgent := l } } : State).endQueued r o cancel) :=
  ((Move.endUrgent r l { r.record o cancel with stamp := s.tb.counter } h rfl).path
    ⟨rfl, rfl, rfl, rfl, rfl, id⟩).trans (path_raise (e := .completionPosted) _ rfl)

theorem endNormal_path (s : State) (r : Request) (l : List Request) (o : ReqOutcome) (cancel : Bool)
    (h : s.ru.normal.Perm (r :: l)) :
    Path s (({ s with ru := { s.ru with normal := l } } : State).endQueued r o cancel) :=
  ((Move.endNormal r l { r.record o cancel with stamp := s.tb.counter } h rfl).path
    ⟨rfl, rfl, rfl, rfl, rfl, id⟩).trans (path_raise (e := .completionPosted) _ rfl)

/-- A deferred request that ends is a move, and its posting an occurrence. -/
theorem endDeferred_path (s : State) (d : Deferred) (l : List Deferred) (ex : List (Fin 4))
    (o : ReqOutcome) (cancel : Bool)
    (hperm : (s.le.deferred.map Deferred.id).Nodup → s.le.deferred.Perm (d :: l))
    (hex : ex.Sublist s.le.expired) (hd : d.id ∉ ex) :
    Path s (({ s with le := { s.le with deferred := l, expired := ex } } : State).endDeferred d.txn
      o cancel) := by
  unfold State.endDeferred
  split
  · rename_i tag horigin
    refine .trans (t := State.settleRequest _ d.txn.payload _)
      ((Move.endDeferred d l ex { d.txn.record tag o cancel with stamp := s.tb.counter }
        hperm hex hd (by simp [Transaction.isRequest, horigin]) rfl).path ⟨rfl, rfl, rfl, rfl, rfl, id⟩)
      (path_raise (e := .completionPosted) _ rfl)
  all_goals
    rename_i horigin
    exact (Move.dropDeferred d l ex hperm hex hd (by simp [Transaction.isRequest, horigin])).path
      ⟨rfl, rfl, rfl, rfl, rfl, id⟩

/-- An entry leaves the deferred list under its name. -/
theorem removeDeferred_leaves (s : State) {d : Deferred} (hd : d ∈ s.le.deferred) :
    ((s.le.deferred.map Deferred.id).Nodup →
        s.le.deferred.Perm (d :: (s.removeDeferred d.id).le.deferred)) ∧
      (s.removeDeferred d.id).le.expired.Sublist s.le.expired ∧
      d.id ∉ (s.removeDeferred d.id).le.expired :=
  ⟨fun hids => perm_cons_filter_id hids hd, List.filter_sublist, by simp⟩

theorem removeDeferred_path (s : State) (d : Deferred) (hd : d ∈ s.le.deferred) (o : ReqOutcome)
    (cancel : Bool) : Path s ((s.removeDeferred d.id).endDeferred d.txn o cancel) :=
  have ⟨hperm, hex, hnot⟩ := removeDeferred_leaves s hd
  endDeferred_path s d _ _ o cancel hperm hex hnot

/-- A candidate that its check ends is a chain of moves. -/
theorem turnedAway_path {s t : State} {c : Candidate} (hc : s.candidate = some c)
    (h : c.turnedAway s = some t) : Path s t := by
  rcases turnedAway_cases h with ⟨d, tag, o, rfl, horigin, rfl⟩ | ⟨d, rfl, hreq, rfl⟩ |
    ⟨r, l, o, rfl, rfl⟩ | ⟨r, l, o, rfl, rfl⟩
  · obtain ⟨d', heq, hd⟩ | ⟨_, _, heq, _⟩ | ⟨_, _, heq, _⟩ | ⟨_, heq, _⟩ := candidate_cases hc <;>
      cases heq
    have := removeDeferred_path s d hd o false
    simpa only [State.endDeferred, horigin] using this
  · obtain ⟨d', heq, hd⟩ | ⟨_, _, heq, _⟩ | ⟨_, _, heq, _⟩ | ⟨_, heq, _⟩ := candidate_cases hc <;>
      cases heq
    have ⟨hperm, hex, hnot⟩ := removeDeferred_leaves s hd
    exact (Move.dropDeferred d _ _ hperm hex hnot hreq).path ⟨rfl, rfl, rfl, rfl, rfl, id⟩
  · obtain ⟨_, heq, _⟩ | ⟨r', l', heq, hq⟩ | ⟨_, _, heq, _⟩ | ⟨_, heq, _⟩ := candidate_cases hc <;>
      cases heq
    exact endUrgent_path s r l o false (by rw [hq])
  · obtain ⟨_, heq, _⟩ | ⟨_, _, heq, _⟩ | ⟨r', l', heq, hq⟩ | ⟨_, heq, _⟩ := candidate_cases hc <;>
      cases heq
    exact endNormal_path s r l o false (by rw [hq])

/-! ## Dispatch (R115, R118) -/

theorem blocksNeeded_le (s : State) (target : Option (Fin 32)) (b : Option (BitVec 2)) :
    s.blocksNeeded target b ≤ 3 := by
  unfold State.blocksNeeded
  split
  · omega
  · rename_i b; have := b.isLt; omega
  · rename_i i; have := (s.station i).replyBlocks.isLt; omega

/-- A reservation has at most 3 blocks (R115). -/
theorem need_le (c : Candidate) (s : State) : c.need s ≤ 3 := by
  cases c with
  | deferred d => exact blocksNeeded_le s d.txn.target d.txn.blocksOverride
  | urgent r l => exact blocksNeeded_le s r.station r.blocks
  | normal r l => exact blocksNeeded_le s r.station r.blocks
  | offer o => exact blocksNeeded_le s (some o.station) none

theorem Offer.origin_isRequest (o : Offer) (s : State) (c : Chain) :
    (s.offerTransaction o c).isRequest = false := by
  cases o with
  | slot x => cases h : x.kind <;> simp [Transaction.isRequest, State.offerTransaction, Offer.origin, h]
  | probe i => rfl

/-- A dispatch is a chain of moves: what is not accounted for, the candidate into the engine, then its
reservation. -/
theorem dispatch_path {s : State} {c : Candidate} (hacts : s.arbiterActs = true)
    (hc : s.candidate = some c) (n : Nat) (hn : n ≤ 3) :
    Path s (dispatch c (s.fs.free.take n)
      { s with fs := { s.fs with free := s.fs.free.drop n } }) := by
  have hidle : s.le.state.holds = false := by
    simp only [State.arbiterActs, Bool.and_eq_true, decide_eq_true_eq] at hacts
    rw [hacts.1.1]
    rfl
  let p : State := { s with fs := { s.fs with free := s.fs.free.drop n } }
  let x := c.transaction p (s.fs.free.take n)
  -- the engine's part, whatever the candidate leaves of the rest
  have enter (u : State) (hu : u.fs.free = s.fs.free) (v : State)
      (hv : v = { u with fs := { u.fs with free := s.fs.free.drop n } }) (b : BitVec 4)
      (htake : ∀ (l : LineInterface) (e : EngineState) (a : Attempt), e.holds = true →
        s.li.KeepsDividers l →
        Path s { u with
          pollRun := b, li := l
          le := { u.le with state := e, attempt := a, current := some { x with reservation := [] } } })
      (hleft : u.li = s.li) (hx : x.reservation = s.fs.free.take n) :
      Path s (startAttempt x { v with pollRun := b }) := by
    subst hv
    obtain ⟨l, e, a, heq, he, -, hl⟩ := startAttempt_change x
      { u with fs := { u.fs with free := s.fs.free.drop n }, pollRun := b }
    rw [heq]
    refine (htake l e a he (hleft ▸ hl)).trans ?_
    have hmove := Move.reserve (s := { u with
          pollRun := b, li := l
          le := { u.le with state := e, attempt := a, current := some { x with reservation := [] } } })
      { x with reservation := [] } n rfl rfl hn
    simp only [hu, ← hx] at hmove
    exact hmove.path ⟨rfl, rfl, rfl, rfl, rfl, id⟩
  have side (u : State) (b : BitVec 4) (l : LineInterface) (a : Attempt)
      (hl : u.li.KeepsDividers l) :
      Path u { u with pollRun := b, li := l, le := { u.le with attempt := a } } :=
    .aside ⟨rfl, rfl, rfl, rfl, rfl, rfl, rfl, rfl, rfl, rfl, rfl⟩
      (.of_same rfl rfl rfl rfl rfl rfl) ⟨rfl, rfl, rfl, hl.1, rfl, hl.2⟩
  rcases candidate_cases hc with ⟨d, rfl, hd⟩ | ⟨r, rest, rfl, hq⟩ | ⟨r, rest, rfl, hq⟩ |
    ⟨o, rfl, ho⟩
  · refine enter (s.removeDeferred d.id) rfl _ rfl _ (fun l e a he hl => ?_) rfl rfl
    exact ((Move.takeDeferred d { x with reservation := [] } e hidle hd rfl rfl rfl he).path
      ⟨rfl, rfl, rfl, rfl, rfl, id⟩).trans (side _ _ l a hl)
  · refine enter { s with ru := { s.ru with urgent := rest } } rfl _ rfl _
      (fun l e a he hl => ?_) rfl rfl
    exact ((Move.takeUrgent r rest { x with reservation := [] } e hidle hq rfl rfl rfl he).path
      ⟨rfl, rfl, rfl, rfl, rfl, id⟩).trans (side _ _ l a hl)
  · refine enter { s with ru := { s.ru with normal := rest } } rfl _ rfl _
      (fun l e a he hl => ?_) rfl rfl
    exact ((Move.takeNormal r rest { x with reservation := [] } e hidle hq rfl rfl rfl he).path
      ⟨rfl, rfl, rfl, rfl, rfl, id⟩).trans (side _ _ l a hl)
  · obtain ⟨cu, v, l, heq, hA, hB, hv, hlatch⟩ := takeOffer_change o p
    let q : State :=
      { s with cu := cu, st := { s.st with entries := v }, eu := { s.eu with latches := l } }
    have hchange : CycleChange s q := ⟨cu, v, l, rfl, hA, hB, hv, hlatch⟩
    have htake (e : EngineState) (he : e.holds = true) :
        Move q (q.withCurrent e { x with reservation := [] }) :=
      .takeItem { x with reservation := [] } e hidle (o.origin_isRequest p _) rfl rfl he
    refine enter q rfl _ heq _ (fun l' e a he hl => ?_) rfl rfl
    exact hchange.path.trans
      (((htake e he).path ⟨rfl, rfl, rfl, rfl, rfl, id⟩).trans (side _ _ l' a hl))

/-! ## The moment of a choice -/

theorem arbitrate_path (k : Nat) (s : State) : Path s (s.arbitrate k) := by
  refine arbitrate_induct (Path s) ?_ ?_ k s (.refl s)
  · exact fun t c u h hc hu => h.trans (turnedAway_path hc hu)
  · rintro t c n h hacts hc - rfl -
    exact h.trans (dispatch_path hacts hc _ (need_le c t))

theorem settle_path (s : State) : Path s s.settle :=
  (formOffer_change s).path.trans (arbitrate_path _ _)

end Sys2Proof.Machine

/-! PROOF. What a settling leaves: the offer formed in six passes at most (R98 to R101), and an arbiter that
has nothing left to do (R109, R116, R117). -/

namespace Sys2Proof.Machine

/-! ## The end of a cycle (R101) -/

/-- The cycle end up to the choice of what follows: CYCLE_END raised and a pending swap made. -/
def State.cycleClosed (s : State) : State :=
  { s with
    cu := { s.cu with
      active := if s.cu.swapPending then s.cu.active.other else s.cu.active
      swapPending := false }
    eu := { s.eu with latches := s.eu.latches ||| 0x010#12 } }

/-- The period timer as a cycle start that loads a stopped timer leaves it (R102). -/
def State.loadedTimer (s : State) : Option (BitVec 16) :=
  if s.cu.timer = none then if s.le.params.period = 0 then none else some s.le.params.period
  else s.cu.timer

theorem cycleClosed_eq (s : State) :
    (if (s.raise .cycleEnd).cu.swapPending then (s.raise .cycleEnd).exchangeBanks
      else s.raise .cycleEnd) = s.cycleClosed := by
  obtain ⟨li, le, st, ⟨bankA, bankB, active, pending, state, pointer, list, pos, timer, start, run⟩,
    rest⟩ := s
  cases pending <;> rfl

theorem cycleStartLoading_eq (s : State) :
    s.cycleStartLoading =
      ({ s with cu := { s.cu with timer := s.loadedTimer } } : State).cycleStart := by
  obtain ⟨li, le, st, ⟨bankA, bankB, active, pending, state, pointer, list, pos, timer, start, run⟩,
    rest⟩ := s
  cases timer with
  | some n => rfl
  | none => rfl

section
variable (s : State)

/-- A pending start begins the next cycle, with a stopped timer loaded first. -/
theorem cycleEnd_of_pending (h : s.cu.startPending = true) :
    s.cycleEnd =
      ({ s.cycleClosed with
        cu := { s.cycleClosed.cu with startPending := false, timer := s.loadedTimer } }
        : State).cycleStart := by
  unfold State.cycleEnd
  simp only [cycleClosed_eq]
  rw [if_pos (show s.cycleClosed.cu.startPending = true from h), cycleStartLoading_eq]
  rfl

/-- With the timer stopped, a cycle that dispatched something is followed by the next one. -/
theorem cycleEnd_of_dispatched (h : s.cu.startPending = false) (htimer : s.cu.timer = none)
    (hdispatched : s.cu.dispatched = true) :
    s.cycleEnd =
      ({ s.cycleClosed with cu := { s.cycleClosed.cu with timer := s.loadedTimer } }
        : State).cycleStart := by
  have hrestart : (s.cycleClosed.cu.timer.isNone && s.cycleClosed.cu.dispatched) = true := by
    show (s.cu.timer.isNone && s.cu.dispatched) = true
    rw [htimer, hdispatched]
    rfl
  unfold State.cycleEnd
  simp only [cycleClosed_eq]
  rw [if_neg (show ¬s.cycleClosed.cu.startPending = true by simp [State.cycleClosed, h]),
    if_pos hrestart, cycleStartLoading_eq]
  rfl

/-- Else the unit waits. -/
theorem cycleEnd_waits (h : s.cu.startPending = false)
    (hidle : s.cu.timer ≠ none ∨ s.cu.dispatched = false) :
    s.cycleEnd = { s.cycleClosed with cu := { s.cycleClosed.cu with state := .waiting } } := by
  have hrestart : ¬(s.cycleClosed.cu.timer.isNone && s.cycleClosed.cu.dispatched) = true := by
    show ¬(s.cu.timer.isNone && s.cu.dispatched) = true
    rw [Bool.and_eq_true, Option.isNone_iff_eq_none]
    rintro ⟨htimer, hdispatched⟩
    rcases hidle with hne | hnot
    · exact hne htimer
    · simp [hnot] at hdispatched
  unfold State.cycleEnd
  simp only [cycleClosed_eq]
  rw [if_neg (show ¬s.cycleClosed.cu.startPending = true by simp [State.cycleClosed, h]),
    if_neg hrestart]
end

/-! ## Forming the offer takes few passes -/

/-- The next cycle may start where this one ends. -/
def State.mayRestart (s : State) : Bool := s.cu.startPending || s.cu.dispatched

/-- The passages that forming the offer may still need: a walk and a probe phase, twice where the cycle
may start again. -/
def State.passesLeft (s : State) : Nat :=
  match s.cu.state with
  | .halted | .waiting => 0
  | .walking => if s.mayRestart then 4 else 2
  | .probePhase => if s.mayRestart then 3 else 1

theorem State.passesLeft_le (s : State) : s.passesLeft ≤ 4 := by
  unfold State.passesLeft
  split <;> (try split_ifs) <;> omega

/-- The end of a probe phase takes one passage. -/
theorem cycleEnd_passesLeft (s : State) (h : s.cu.state = .probePhase) :
    s.cycleEnd.passesLeft < s.passesLeft := by
  have hwalk (t : State) : t.cycleStart.cu.state = .walking := rfl
  cases hpending : s.cu.startPending with
  | true =>
    rw [cycleEnd_of_pending s hpending]
    simp only [State.passesLeft, hwalk, h]
    simp [State.mayRestart, State.cycleStart, hpending]
  | false =>
    by_cases hrestart : s.cu.timer = none ∧ s.cu.dispatched = true
    · rw [cycleEnd_of_dispatched s hpending hrestart.1 hrestart.2]
      simp only [State.passesLeft, hwalk, h]
      simp [State.mayRestart, State.cycleStart, State.cycleClosed, hpending, hrestart.2]
    · have hidle : s.cu.timer ≠ none ∨ s.cu.dispatched = false := by
        rcases not_and_or.mp hrestart with h | h
        · exact .inl h
        · exact .inr (by simpa using h)
      rw [cycleEnd_waits s hpending hidle]
      simp only [State.passesLeft, h]
      split_ifs <;> omega

/-- With as many passages as may be needed the offer is formed, and one passage more changes
nothing. -/
theorem formOfferIn_spec (k : Nat) (s : State) (h : s.passesLeft ≤ k) :
    (s.formOfferIn k).OfferFormed ∧ s.formOfferIn (k + 1) = s.formOfferIn k := by
  induction k generalizing s with
  | zero =>
    have hstate : s.cu.state = .halted ∨ s.cu.state = .waiting := by
      unfold State.passesLeft at h
      cases hcu : s.cu.state with
      | halted => exact .inl rfl
      | waiting => exact .inr rfl
      | walking | probePhase =>
        simp only [hcu] at h
        split_ifs at h <;> omega
    constructor
    · intro hcycle
      rw [State.formOfferIn] at hcycle
      rcases hstate with hstate | hstate <;> rw [hstate] at hcycle <;> simp at hcycle
    · rcases hstate with hstate | hstate <;> simp only [State.formOfferIn, hstate]
  | succ k ih =>
    cases hcu : s.cu.state with
    | halted | waiting =>
      constructor
      · simp [State.formOfferIn, hcu, State.OfferFormed]
      · simp only [State.formOfferIn, hcu]
    | walking =>
      let p := skipTo s.slotQualifies (s.cu.activeBank.length.toNat - s.cu.pointer) s.cu.pointer
      by_cases hp : p < s.cu.activeBank.length.toNat
      · have hform (m : Nat) :
            s.formOfferIn (m + 1) = { s with cu := { s.cu with pointer := p } } := by
          rw [State.formOfferIn]
          simp only [hcu]
          rw [if_pos hp]
        obtain ⟨_, _, _, hq⟩ := skipTo_spec s.slotQualifies
          (s.cu.activeBank.length.toNat - s.cu.pointer) s.cu.pointer
        rw [hform, hform]
        refine ⟨fun _ => ?_, rfl⟩
        rw [State.offer_isSome_walking _ (by exact hcu)]
        exact ⟨hp, hq (by omega)⟩
      · have hform (m : Nat) :
            s.formOfferIn (m + 1) =
              ({ s with cu := { s.cu with pointer := p, state := .probePhase } }
                : State).formOfferIn m := by
          rw [State.formOfferIn]
          simp only [hcu]
          rw [if_neg hp]
        rw [hform, hform]
        refine ih _ ?_
        have hsame : ({ s with cu := { s.cu with pointer := p, state := .probePhase } } : State).mayRestart
          = s.mayRestart := rfl
        simp only [State.passesLeft, hcu, hsame] at h ⊢
        split_ifs at h ⊢ <;> omega
    | probePhase =>
      let p := skipTo s.probeQualifies (s.cu.probeList.length - s.cu.probePos) s.cu.probePos
      by_cases hp : p < s.cu.probeList.length
      · have hform (m : Nat) :
            s.formOfferIn (m + 1) = { s with cu := { s.cu with probePos := p } } := by
          rw [State.formOfferIn]
          simp only [hcu]
          rw [if_pos hp]
        obtain ⟨_, _, _, hq⟩ := skipTo_spec s.probeQualifies
          (s.cu.probeList.length - s.cu.probePos) s.cu.probePos
        rw [hform, hform]
        refine ⟨fun _ => ?_, rfl⟩
        rw [State.offer_isSome_probePhase _ (by exact hcu)]
        exact hq (by omega)
      · have hform (m : Nat) :
            s.formOfferIn (m + 1) =
              ({ s with cu := { s.cu with probePos := p } } : State).cycleEnd.formOfferIn m := by
          rw [State.formOfferIn]
          simp only [hcu]
          rw [if_neg hp]
        rw [hform, hform]
        refine ih _ ?_
        have hend := cycleEnd_passesLeft { s with cu := { s.cu with probePos := p } } hcu
        have hsame : ({ s with cu := { s.cu with probePos := p } } : State).passesLeft =
          s.passesLeft := rfl
        omega

/-- The offer is formed (R98, R100). -/
theorem formOffer_formed (s : State) : s.formOffer.OfferFormed :=
  (formOfferIn_spec 6 s (s.passesLeft_le.trans (by omega))).1

/-- One passage first, and the offer formed from there, come to the same. -/
theorem formOfferIn_five (s : State) : s.formOfferIn 5 = s.formOffer :=
  ((formOfferIn_spec 5 s (s.passesLeft_le.trans (by omega))).2).symm

/-! ## What the choice depends on -/

/-- What the offer and the arbiter's choice depend on is the same, but that the monitor may have become
ACTIVE. -/
structure SameChoice (s t : State) : Prop where
  cycle : t.cu.state = s.cu.state
  offer : t.offer = s.offer
  state : t.le.state = s.le.state
  stopMark : t.le.stopMark = s.le.stopMark
  monitor : t.li.monitor = .quiet → s.li.monitor = .quiet
  deferred : t.le.deferred = s.le.deferred
  expired : t.le.expired = s.le.expired
  urgent : t.ru.urgent = s.ru.urgent
  normal : t.ru.normal = s.ru.normal
  share : t.le.params.share = s.le.params.share
  pollRun : t.pollRun = s.pollRun
  free : t.fs.free = s.fs.free
  states : ∀ i, (t.station i).state = (s.station i).state
  blocks : ∀ i, (t.station i).replyBlocks = (s.station i).replyBlocks

/-- The offer depends on the Cycle Unit and the stations' states alone. -/
theorem offer_congr {s t : State} (hcu : t.cu = s.cu)
    (hstates : ∀ i, (t.station i).state = (s.station i).state) : t.offer = s.offer := by
  simp only [State.offer, State.slotQualifies, State.probeQualifies, hcu, hstates] <;> rfl

theorem SameChoice.candidate {s t : State} (h : SameChoice s t) : t.candidate = s.candidate := by
  simp only [State.candidate, State.oldestExpired, State.normalOrOffer, State.normalHead,
    State.shareReached, h.expired, h.deferred, h.urgent, h.normal, h.share, h.pollRun, h.offer]
    <;> rfl

theorem SameChoice.need {s t : State} (h : SameChoice s t) (c : Candidate) :
    c.need t = c.need s := by
  have hblocks (target : Option (Fin 32)) (b : Option (BitVec 2)) :
      t.blocksNeeded target b = s.blocksNeeded target b := by
    cases target with
    | none => rfl
    | some i =>
      cases b with
      | none => exact congrArg BitVec.toNat (h.blocks i)
      | some b => rfl
  cases c with
  | deferred d => exact hblocks _ _
  | urgent r l => exact hblocks _ _
  | normal r l => exact hblocks _ _
  | offer o => exact hblocks (some o.station) none

/-- Whether the check ends a candidate depends on the states of the stations alone. -/
theorem turnedAway_isNone_congr {s t : State}
    (hstates : ∀ i, (t.station i).state = (s.station i).state) (c : Candidate) :
    (c.turnedAway t).isNone = (c.turnedAway s).isNone := by
  have hcheck (k : CommandKind) (target : Option (Fin 32)) :
      t.checkTarget k target = s.checkTarget k target := by
    cases target with
    | none => rfl
    | some i => simp only [State.checkTarget, hstates]
  cases c with
  | deferred d =>
    have hpolled : t.stillPolled d.txn = s.stillPolled d.txn := by
      unfold State.stillPolled
      cases d.txn.target with
      | none => rfl
      | some i => simp only [hstates]
    unfold Candidate.turnedAway
    simp only
    cases d.txn.origin with
    | request tag => simp only [hcheck, Option.isNone_map]
    | pollSlot | readSlot =>
      simp only [hpolled]
      split_ifs <;> rfl
    | probe => rfl
  | urgent r l => simp only [Candidate.turnedAway, hcheck, Option.isNone_map]
  | normal r l => simp only [Candidate.turnedAway, hcheck, Option.isNone_map]
  | offer o => rfl

theorem SameChoice.acts {s t : State} (h : SameChoice s t) (hacts : t.arbiterActs = true) :
    s.arbiterActs = true := by
  simp only [State.arbiterActs, Bool.and_eq_true, decide_eq_true_eq, h.state, h.stopMark] at hacts ⊢
  obtain ⟨⟨hidle, hquiet⟩, hmark⟩ := hacts
  exact ⟨⟨hidle, h.monitor hquiet⟩, hmark⟩

theorem SameChoice.formed {s t : State} (h : SameChoice s t) (hs : s.OfferFormed) :
    t.OfferFormed := by
  rw [State.OfferFormed, h.cycle, h.offer]
  exact hs

/-- Whether BUFFER_WAIT is true depends on what the choice depends on. -/
theorem bufferWait_iff (s : State) : s.bufferWait = true ↔ s.arbiterActs = true ∧
    ∃ c, s.candidate = some c ∧ (c.turnedAway s).isNone = true ∧ s.freeCount < c.need s := by
  unfold State.bufferWait
  cases s.candidate <;> simp

/-- Where nothing that the choice depends on changes, nothing is left undone that was not before. -/
theorem SameChoice.settled {s t : State} (h : SameChoice s t) (hs : s.Settled) : t.Settled := by
  obtain ⟨hformed, hrest⟩ := hs
  refine ⟨h.formed hformed, fun hacts => ?_⟩
  rw [h.candidate]
  refine (hrest (h.acts hacts)).imp_right fun hwait => ?_
  rw [bufferWait_iff] at hwait ⊢
  obtain ⟨-, c, hc, hnone, hfree⟩ := hwait
  refine ⟨hacts, c, h.candidate.trans hc, (turnedAway_isNone_congr h.states c).trans hnone, ?_⟩
  rw [h.need c, State.freeCount, h.free]
  exact hfree

/-- With an offer formed, an arbiter that does not act leaves nothing undone. -/
theorem State.OfferFormed.settled {t : State} (h : t.OfferFormed) (hacts : t.arbiterActs = false) :
    t.Settled := ⟨h, fun ha => by simp [hacts] at ha⟩

theorem arbiterActs_of_state {t : State} (h : t.le.state ≠ .idle) : t.arbiterActs = false := by
  simp [State.arbiterActs, h]

/-! ## Arbitrating comes to rest -/

/-- A turn that is not the last takes one entry out of a queue or the deferred list. -/
theorem turnedAway_turns {s t : State} {c : Candidate} (hc : s.candidate = some c)
    (h : c.turnedAway s = some t) : t.turns < s.turns := by
  have hremove (d : Deferred) (hd : d ∈ s.le.deferred) :
      (s.removeDeferred d.id).le.deferred.length < s.le.deferred.length :=
    List.length_filter_lt_length_iff_exists.mpr ⟨d, hd, by simp⟩
  rcases turnedAway_cases h with ⟨d, tag, o, rfl, horigin, rfl⟩ | ⟨d, rfl, hreq, rfl⟩ |
    ⟨r, l, o, rfl, rfl⟩ | ⟨r, l, o, rfl, rfl⟩
  · obtain ⟨d', heq, hd⟩ | ⟨_, _, heq, _⟩ | ⟨_, _, heq, _⟩ | ⟨_, heq, _⟩ := candidate_cases hc <;>
      cases heq
    have := hremove d hd
    simp only [State.turns, State.post_ru, State.post_le, State.freeChain_ru, State.freeChain_le,
      State.removeDeferred_ru] at this ⊢
    omega
  · obtain ⟨d', heq, hd⟩ | ⟨_, _, heq, _⟩ | ⟨_, _, heq, _⟩ | ⟨_, heq, _⟩ := candidate_cases hc <;>
      cases heq
    have := hremove d hd
    simp only [State.turns, State.removeDeferred_ru] at this ⊢
    omega
  · obtain ⟨_, heq, _⟩ | ⟨r', l', heq, hq⟩ | ⟨_, _, heq, _⟩ | ⟨_, heq, _⟩ := candidate_cases hc <;>
      cases heq
    simp only [State.turns, State.endQueued, State.post_ru, State.post_le, State.freeChain_ru,
      State.freeChain_le, hq, List.length_cons]
    omega
  · obtain ⟨_, heq, _⟩ | ⟨_, _, heq, _⟩ | ⟨r', l', heq, hq⟩ | ⟨_, heq, _⟩ := candidate_cases hc <;>
      cases heq
    simp only [State.turns, State.endQueued, State.post_ru, State.post_le, State.freeChain_ru,
      State.freeChain_le, hq, List.length_cons]
    omega

/-- A check that ends a candidate leaves the cycle and the stations. -/
theorem turnedAway_frame {s t : State} {c : Candidate} (h : c.turnedAway s = some t) :
    t.cu = s.cu ∧ t.st = s.st := by
  rcases turnedAway_cases h with ⟨d, tag, o, -, -, rfl⟩ | ⟨d, -, -, rfl⟩ | ⟨r, l, o, -, rfl⟩ |
    ⟨r, l, o, -, rfl⟩ <;> exact ⟨rfl, rfl⟩

theorem turnedAway_formed {s t : State} {c : Candidate} (h : c.turnedAway s = some t)
    (hs : s.OfferFormed) : t.OfferFormed := by
  obtain ⟨hcu, hst⟩ := turnedAway_frame h
  have hoffer : t.offer = s.offer := offer_congr hcu fun i => by rw [State.station, hst]; rfl
  rw [State.OfferFormed, hcu, hoffer]
  exact hs

/-- Taking an offer leaves the next one formed. -/
theorem takeOffer_formed (o : Offer) (s : State) : (s.takeOffer o).OfferFormed := by
  cases o with
  | slot x => exact formOffer_formed _
  | probe i => exact formOffer_formed _

/-- A dispatch leaves the offer formed and an arbiter that does not act: the monitor is ACTIVE. -/
theorem dispatch_settled (c : Candidate) (chain : Chain) {s : State} (hs : s.OfferFormed) :
    (dispatch c chain s).Settled := by
  have hsource : (c.leaveSource s).OfferFormed := by
    cases c with
    | deferred d => exact hs
    | urgent r l => exact hs
    | normal r l => exact hs
    | offer o => exact takeOffer_formed o s
  obtain ⟨l, e, a, heq, -, hactive, -⟩ := startAttempt_change (c.transaction s chain)
    { c.leaveSource s with pollRun := c.pollRunAfter (c.leaveSource s).pollRun }
  unfold dispatch
  simp only
  rw [heq]
  exact State.OfferFormed.settled hsource (State.arbiterActs_of_active _ hactive)

/-- With as many turns as may be needed the arbiter comes to rest, and one turn more changes
nothing. -/
theorem arbitrate_spec (k : Nat) (s : State) (hk : s.turns ≤ k) (hs : s.OfferFormed) :
    (s.arbitrate k).Settled ∧ s.arbitrate (k + 1) = s.arbitrate k := by
  induction k generalizing s with
  | zero => exact absurd hk (by simp [State.turns])
  | succ k ih =>
    cases hacts : s.arbiterActs with
    | false =>
      rw [arbitrate_idle _ s hacts, arbitrate_idle _ s hacts]
      exact ⟨hs.settled hacts, rfl⟩
    | true =>
      cases hc : s.candidate with
      | none =>
        simp only [State.arbitrate, hacts, hc, if_true]
        exact ⟨⟨hs, fun _ => .inl hc⟩, trivial⟩
      | some c =>
        cases ht : c.turnedAway s with
        | some t =>
          have hturns := turnedAway_turns hc ht
          have hstep (m : Nat) : s.arbitrate (m + 1) = t.arbitrate m := by
            simp only [State.arbitrate, hacts, hc, ht, if_true]
          rw [hstep, hstep]
          exact ih t (by omega) (turnedAway_formed ht hs)
        | none =>
          by_cases hfree : c.need s ≤ s.freeCount
          · simp only [State.arbitrate, hacts, hc, ht, if_true, allocate_met s _ hfree]
            exact ⟨dispatch_settled c _ hs, trivial⟩
          · rw [not_le] at hfree
            simp only [State.arbitrate, hacts, hc, ht, if_true, allocate_refused s _ hfree]
            refine ⟨⟨hs, fun _ => .inr ?_⟩, trivial⟩
            exact (bufferWait_iff s).mpr ⟨hacts, c, hc, by rw [ht]; rfl, hfree⟩

/-- More turns than may be needed change nothing. -/
theorem arbitrate_more {k : Nat} {s : State} (hk : s.turns ≤ k) (hs : s.OfferFormed) :
    s.arbitrate k = s.arbitrate s.turns := by
  induction k, hk using Nat.le_induction with
  | base => rfl
  | succ k hk ih => rw [(arbitrate_spec k s hk hs).2, ih]

/-- A settling leaves nothing undone. -/
theorem settle_settled (s : State) : s.settle.Settled :=
  (arbitrate_spec _ s.formOffer le_rfl (formOffer_formed s)).1

end Sys2Proof.Machine

/-! PROOF. Section 5.2 and the walk (O13): the rules of the Cycle Unit, from the searching of `skipTo` and
from one passage of `formOfferIn`. -/

namespace Sys2Proof.Machine

/-! ## Searching -/

/-- The search stops at the first position that qualifies. -/
theorem skipTo_first {q : Nat → Bool} {k p r : Nat} (hpr : p ≤ r) (hr : r < p + k) (hq : q r = true)
    (hbefore : ∀ j, p ≤ j → j < r → q j = false) : skipTo q k p = r := by
  obtain ⟨hle, -, hskip, hstop⟩ := skipTo_spec q k p
  rcases lt_trichotomy (skipTo q k p) r with h | h | h
  · have := hbefore _ hle h
    rw [hstop (by omega)] at this
    cases this
  · exact h
  · have := hskip r hpr h
    rw [hq] at this
    cases this

/-- Where nothing qualifies the search runs to its end. -/
theorem skipTo_none {q : Nat → Bool} {k p : Nat} (h : ∀ j, p ≤ j → j < p + k → q j = false) :
    skipTo q k p = p + k := by
  obtain ⟨hle, hend, -, hstop⟩ := skipTo_spec q k p
  by_contra hne
  have hlt : skipTo q k p < p + k := by omega
  have := h _ hle hlt
  rw [hstop hlt] at this
  cases this

/-! ## One passage -/

section
variable (s : State)

/-- A passage of the walk stops at the slot that the search finds, or leads into the probe phase. -/
theorem formOffer_walking (h : s.cu.state = .walking) :
    s.formOffer =
      let n := s.cu.activeBank.length.toNat
      let p := skipTo s.slotQualifies (n - s.cu.pointer) s.cu.pointer
      if p < n then { s with cu := { s.cu with pointer := p } }
      else
        ({ s with cu := { s.cu with pointer := p, state := .probePhase } } : State).formOffer := by
  rw [State.formOffer, Config.cyclePasses, State.formOfferIn]
  simp only [h, formOfferIn_five]

/-- A passage of the probe phase stops at the entry that the search finds, or ends the cycle. -/
theorem formOffer_probePhase (h : s.cu.state = .probePhase) :
    s.formOffer =
      let n := s.cu.probeList.length
      let p := skipTo s.probeQualifies (n - s.cu.probePos) s.cu.probePos
      if p < n then { s with cu := { s.cu with probePos := p } }
      else ({ s with cu := { s.cu with probePos := p } } : State).cycleEnd.formOffer := by
  rw [State.formOffer, Config.cyclePasses, State.formOfferIn]
  simp only [h, formOfferIn_five]

theorem slotQualifies_iff (j : Nat) : s.slotQualifies j = true ↔
    ∃ x : Slot, s.cu.activeBank.slots[j]? = some x ∧ x.enabled = true ∧
      (s.station x.station).state.polled = true := by
  unfold State.slotQualifies
  cases s.cu.activeBank.slots[j]? <;> simp

theorem probeQualifies_iff (j : Nat) : s.probeQualifies j = true ↔
    ∃ i, s.cu.probeList[j]? = some i ∧ (s.station i).state.sought = true := by
  unfold State.probeQualifies
  cases s.cu.probeList[j]? <;> simp

/-- The first slot that qualifies is offered (R98). -/
theorem formOffer_slot {p : Nat} {x : Slot} (h : s.cu.state = .walking) (hp : s.cu.pointer ≤ p)
    (hlt : p < s.cu.activeBank.length.toNat) (hx : s.cu.activeBank.slots[p]? = some x)
    (henabled : x.enabled = true) (hpolled : (s.station x.station).state.polled = true)
    (hbefore : ∀ j, s.cu.pointer ≤ j → j < p → s.slotQualifies j = false) :
    s.formOffer = { s with cu := { s.cu with pointer := p } } ∧
      s.formOffer.offer = some (.slot x) := by
  have hq : s.slotQualifies p = true := (slotQualifies_iff s p).mpr ⟨x, hx, henabled, hpolled⟩
  have hskip : skipTo s.slotQualifies (s.cu.activeBank.length.toNat - s.cu.pointer) s.cu.pointer = p :=
    skipTo_first hp (by omega) hq hbefore
  have hform : s.formOffer = { s with cu := { s.cu with pointer := p } } := by
    rw [formOffer_walking s h]
    simp only [hskip, if_pos hlt]
  refine ⟨hform, ?_⟩
  rw [hform]
  let t : State := { s with cu := { s.cu with pointer := p } }
  have hact : t.cu.activeBank = s.cu.activeBank := rfl
  have hqt : t.slotQualifies p = true := hq
  show t.offer = _
  simp only [State.offer, show t.cu.state = .walking from h, show t.cu.pointer = p from rfl, hact, hqt,
    hlt, hx, decide_true, Bool.and_true, if_true, Option.map_some]

/-- The first probe-list entry that qualifies is offered (R100). -/
theorem formOffer_probe {p : Nat} {i : Fin 32} (h : s.cu.state = .probePhase)
    (hp : s.cu.probePos ≤ p) (hi : s.cu.probeList[p]? = some i)
    (hsought : (s.station i).state.sought = true)
    (hbefore : ∀ j, s.cu.probePos ≤ j → j < p → s.probeQualifies j = false) :
    s.formOffer = { s with cu := { s.cu with probePos := p } } ∧
      s.formOffer.offer = some (.probe i) := by
  have hq : s.probeQualifies p = true := (probeQualifies_iff s p).mpr ⟨i, hi, hsought⟩
  have hlt := s.probeQualifies_lt p hq
  have hskip : skipTo s.probeQualifies (s.cu.probeList.length - s.cu.probePos) s.cu.probePos = p :=
    skipTo_first hp (by omega) hq hbefore
  have hform : s.formOffer = { s with cu := { s.cu with probePos := p } } := by
    rw [formOffer_probePhase s h]
    simp only [hskip, if_pos hlt]
  refine ⟨hform, ?_⟩
  rw [hform]
  let t : State := { s with cu := { s.cu with probePos := p } }
  have hqt : t.probeQualifies p = true := hq
  show t.offer = _
  simp only [State.offer, show t.cu.state = .probePhase from h, show t.cu.probePos = p from rfl,
    show t.cu.probeList = s.cu.probeList from rfl, hqt, hi, if_true, Option.map_some]

/-- A walk without a slot that qualifies leads into the probe phase (R98). -/
theorem formOffer_walkedOut (h : s.cu.state = .walking)
    (hnone : ∀ j, s.cu.pointer ≤ j → j < s.cu.activeBank.length.toNat → s.slotQualifies j = false) :
    s.formOffer =
      ({ s with
        cu := { s.cu with
          pointer := max s.cu.pointer s.cu.activeBank.length.toNat, state := .probePhase } }
        : State).formOffer := by
  have hskip := skipTo_none (q := s.slotQualifies) (p := s.cu.pointer)
    (k := s.cu.activeBank.length.toNat - s.cu.pointer) fun j hj hlt => hnone j hj (by omega)
  have hmax : s.cu.pointer + (s.cu.activeBank.length.toNat - s.cu.pointer) =
    max s.cu.pointer s.cu.activeBank.length.toNat := by omega
  rw [formOffer_walking s h]
  simp only [hskip, hmax]
  rw [if_neg (by omega)]

/-- A probe phase without an entry that qualifies ends the cycle (R100, R101). -/
theorem formOffer_probedOut (h : s.cu.state = .probePhase)
    (hnone : ∀ j, s.cu.probePos ≤ j → j < s.cu.probeList.length → s.probeQualifies j = false) :
    s.formOffer =
      ({ s with cu := { s.cu with probePos := max s.cu.probePos s.cu.probeList.length } }
        : State).cycleEnd.formOffer := by
  have hskip := skipTo_none (q := s.probeQualifies) (p := s.cu.probePos)
    (k := s.cu.probeList.length - s.cu.probePos) fun j hj hlt => hnone j hj (by omega)
  have hmax : s.cu.probePos + (s.cu.probeList.length - s.cu.probePos) =
    max s.cu.probePos s.cu.probeList.length := by omega
  rw [formOffer_probePhase s h]
  simp only [hskip, hmax]
  rw [if_neg (by omega)]

/-- Outside a cycle there is no offer. -/
theorem formOffer_outside (h : s.cu.state = .halted ∨ s.cu.state = .waiting) :
    s.formOffer = s ∧ s.offer = none := by
  rcases h with h | h <;>
    exact ⟨by simp only [State.formOffer, Config.cyclePasses, State.formOfferIn, h],
      by simp only [State.offer, h]⟩

/-- Taking a probe reloads the countdown of an OFFLINE station (R75). -/
theorem takeOffer_probe (i : Fin 32) :
    s.takeOffer (.probe i) =
      ({ s with
        st := { s.st with
          entries :=
            if (s.station i).state = .offline then
              s.st.entries.set i { s.station i with countdown := (s.station i).probeInterval }
            else s.st.entries }
        cu := { s.cu with probePos := s.cu.probePos + 1, dispatched := true } }
        : State).formOffer := by
  unfold State.takeOffer
  simp only
  split_ifs <;> rfl

theorem State.mapStations_changes (f : Station → Station) :
    (s.mapStations f).st.changes = s.st.changes := by rw [State.mapStations_st]

theorem State.cycleStart_eq :
    s.cycleStart =
      { s with
        st := (s.mapStations Station.countDown).st
        cu := { s.cu with
          state := .walking, pointer := 0
          probeList := (s.mapStations Station.countDown).probeListNow
          probePos := 0, dispatched := false } } := by
  simp [State.cycleStart]

/-- A cycle start (R96, R97). -/
theorem cycleStart_spec : ∃ (st : StationTable) (list : List (Fin 32)),
    s.cycleStart =
      { s with
        st := st
        cu := { s.cu with
          state := .walking, pointer := 0, probeList := list, probePos := 0,
          dispatched := false } } ∧
    st.changes = s.st.changes ∧
    (∀ i, st.entries.get i =
      if (s.station i).state = .offline ∧ (s.station i).countdown ≠ 0 then
        { s.station i with countdown := (s.station i).countdown - 1 }
      else s.station i) ∧
    (∀ i, i ∈ list ↔ (st.entries.get i).state = .probing ∨
      ((st.entries.get i).state = .offline ∧ (st.entries.get i).countdown = 0)) ∧
    list.Pairwise fun i j => i.val < j.val := by
  have hentry (i : Fin 32) : (s.mapStations Station.countDown).station i = (s.station i).countDown :=
    s.station_mapStations _ i
  have hlist (t : State) (i : Fin 32) : i ∈ t.probeListNow ↔ (t.station i).state = .probing ∨
      ((t.station i).state = .offline ∧ (t.station i).countdown = 0) := by
    simp [State.probeListNow]
  exact ⟨_, _, s.cycleStart_eq, s.mapStations_changes _, hentry, hlist _,
    (List.pairwise_lt_finRange 32).filter _⟩
end

end Sys2Proof.Machine

namespace Sys2Proof.Proofs

open Sys2Proof.Machine

/-- Settles O13: each rule is the lemma about its function. -/
theorem cycleRules : Obligations.CycleRules := by
  unfold Obligations.CycleRules
  refine ⟨cycleStart_spec, fun s => ?_, fun s =>
    ⟨cycleEnd_of_pending s, cycleEnd_of_dispatched s, cycleEnd_waits s⟩⟩
  refine ⟨fun h => ?_, fun h => ?_, fun i => rfl,
    fun p x h hp hlt hx he hpolled hbefore => formOffer_slot s h hp hlt hx he hpolled hbefore,
    fun p i h hp hi hsought hbefore => formOffer_probe s h hp hi hsought hbefore,
    formOffer_walkedOut s, formOffer_probedOut s, slotQualifies_iff s, probeQualifies_iff s,
    fun st => ?_, formOffer_outside s, fun x => rfl, takeOffer_probe s⟩
  · rw [CycleUnit.activeBank, h]; rfl
  · rw [CycleUnit.activeBank, h]; rfl
  · cases st <;> simp [StationState.polled, StationState.sought]

end Sys2Proof.Proofs

/-! PROOF. The moment of a choice (O50, O51): what the arbiter does with its candidate, and what a settling
leaves alone. -/

namespace Sys2Proof.Machine

/-! ## One turn of the arbiter -/

section
variable {s : State}

/-- With the offer formed a settling is the arbiter's. -/
theorem State.OfferFormed.settle_eq (h : s.OfferFormed) : s.settle = s.arbitrate s.turns := by
  simp only [State.settle, h.formOffer_eq]

/-- A candidate that its check ends makes the arbiter choose again (R114). -/
theorem settle_turnedAway (h : s.OfferFormed) {c : Candidate} {t : State}
    (hacts : s.arbiterActs = true) (hc : s.candidate = some c) (ht : c.turnedAway s = some t) :
    s.settle = t.settle := by
  have hformed := turnedAway_formed ht h
  have hturns := turnedAway_turns hc ht
  obtain ⟨k, hk⟩ : ∃ k, s.turns = k + 1 := ⟨_, rfl⟩
  rw [h.settle_eq, hformed.settle_eq, hk, ← arbitrate_more (k := k) (by omega) hformed]
  simp only [State.arbitrate, hacts, hc, ht, if_true]

/-- A candidate that passes its check and whose blocks are there is dispatched (R115, R118). -/
theorem settle_dispatches (h : s.OfferFormed) {c : Candidate} (hacts : s.arbiterActs = true)
    (hc : s.candidate = some c) (ht : c.turnedAway s = none) (hfree : c.need s ≤ s.freeCount) :
    s.settle = dispatch c (s.fs.free.take (c.need s))
      { s with fs := { s.fs with free := s.fs.free.drop (c.need s) } } := by
  rw [h.settle_eq, State.turns]
  simp only [State.arbitrate, hacts, hc, ht, if_true, allocate_met s _ hfree]

/-- A candidate whose blocks are not there waits (R116, R117). -/
theorem settle_waits (h : s.OfferFormed) {c : Candidate} (hacts : s.arbiterActs = true)
    (hc : s.candidate = some c) (ht : c.turnedAway s = none) (hfree : s.freeCount < c.need s) :
    s.settle = s ∧ s.bufferWait = true := by
  constructor
  · rw [h.settle_eq, State.turns]
    simp only [State.arbitrate, hacts, hc, ht, if_true, allocate_refused s _ hfree]
  · exact (bufferWait_iff s).mpr ⟨hacts, c, hc, by rw [ht]; rfl, hfree⟩

/-- Without a candidate, or where it may not act, the arbiter does nothing (R109). -/
theorem settle_nothing (h : s.OfferFormed) (hnone : s.arbiterActs = false ∨ s.candidate = none) :
    s.settle = s ∧ s.bufferWait = false := by
  rcases hnone with hacts | hc
  · exact ⟨h.settle_eq_self hacts, by simp [State.bufferWait, hacts]⟩
  · constructor
    · rw [h.settle_eq, State.turns]
      simp only [State.arbitrate, hc, ite_self]
    · simp [State.bufferWait, hc]

/-- Leaving its source a candidate leaves the poll run counter. -/
theorem leaveSource_pollRun (c : Candidate) (s : State) : (c.leaveSource s).pollRun = s.pollRun := by
  cases c with
  | deferred d => rfl
  | urgent r l => rfl
  | normal r l => rfl
  | offer o =>
    obtain ⟨_, _, _, heq, -⟩ := takeOffer_change o s
    show (s.takeOffer o).pollRun = _
    rw [heq]

theorem arbiterActs_iff (s : State) : s.arbiterActs = true ↔
    s.le.state = .idle ∧ s.li.monitor = .quiet ∧ s.le.stopMark = false := by
  simp [State.arbiterActs, and_assoc]
end

/-! ## What a settling leaves alone -/

/-- What the moment of a choice leaves alone, whatever it dispatches. -/
structure ChoiceFrame (s t : State) : Prop where
  tb : t.tb = s.tb
  staging : t.ru.staging = s.ru.staging
  params : t.le.params = s.le.params
  stopMark : t.le.stopMark = s.le.stopMark
  changes : t.st.changes = s.st.changes
  snapshots : t.fs.snapshots = s.fs.snapshots
  cursor : t.fs.cursor = s.fs.cursor
  mem : t.fs.mem = s.fs.mem
  enables : t.eu.enables = s.eu.enables
  routes : t.eu.routes = s.eu.routes
  bi : t.bi = s.bi
  pins : t.pins = s.pins
  lineIn : t.lineIn = s.lineIn
  choice : t.choice = s.choice
  pending : t.pending = s.pending
  bankA : t.cu.bankA = s.cu.bankA
  bankB : t.cu.bankB = s.cu.bankB
  ring : ∃ more, t.cq.ring = s.cq.ring ++ more
  stations : ∀ i, s.station i = { t.station i with countdown := (s.station i).countdown }

theorem ChoiceFrame.refl (s : State) : ChoiceFrame s s :=
  ⟨rfl, rfl, rfl, rfl, rfl, rfl, rfl, rfl, rfl, rfl, rfl, rfl, rfl, rfl, rfl, rfl, rfl,
    ⟨[], (List.append_nil _).symm⟩, fun _ => rfl⟩

theorem ChoiceFrame.trans {s t u : State} (h : ChoiceFrame s t) (k : ChoiceFrame t u) :
    ChoiceFrame s u where
  tb := k.tb.trans h.tb
  staging := k.staging.trans h.staging
  params := k.params.trans h.params
  stopMark := k.stopMark.trans h.stopMark
  changes := k.changes.trans h.changes
  snapshots := k.snapshots.trans h.snapshots
  cursor := k.cursor.trans h.cursor
  mem := k.mem.trans h.mem
  enables := k.enables.trans h.enables
  routes := k.routes.trans h.routes
  bi := k.bi.trans h.bi
  pins := k.pins.trans h.pins
  lineIn := k.lineIn.trans h.lineIn
  choice := k.choice.trans h.choice
  pending := k.pending.trans h.pending
  bankA := k.bankA.trans h.bankA
  bankB := k.bankB.trans h.bankB
  ring := by
    obtain ⟨m, hm⟩ := h.ring
    obtain ⟨n, hn⟩ := k.ring
    exact ⟨m ++ n, by rw [hn, hm, List.append_assoc]⟩
  stations i := by
    have hk := k.stations i
    have hh := h.stations i
    rw [hk] at hh
    exact hh

theorem CycleChange.choiceFrame {s t : State} (h : CycleChange s t) : ChoiceFrame s t := by
  obtain ⟨c, v, l, rfl, hA, hB, hv, -⟩ := h
  refine ⟨rfl, rfl, rfl, rfl, rfl, rfl, rfl, rfl, rfl, rfl, rfl, rfl, rfl, rfl, rfl, hA, hB,
    ⟨[], (List.append_nil _).symm⟩, fun i => ?_⟩
  show s.station i = { v.get i with countdown := (s.station i).countdown }
  rw [(hv i).countdown]

/-- A posting of a request that waited leaves all of it alone but the ring. -/
theorem turnedAway_choiceFrame {s t : State} {c : Candidate} (h : c.turnedAway s = some t) :
    ChoiceFrame s t := by
  rcases turnedAway_cases h with ⟨d, tag, o, -, -, rfl⟩ | ⟨d, -, -, rfl⟩ | ⟨r, l, o, -, rfl⟩ |
    ⟨r, l, o, -, rfl⟩
  · exact ⟨rfl, rfl, rfl, rfl, rfl, rfl, rfl, rfl, rfl, rfl, rfl, rfl, rfl, rfl, rfl, rfl, rfl,
      ⟨_, rfl⟩, fun _ => rfl⟩
  · exact ⟨rfl, rfl, rfl, rfl, rfl, rfl, rfl, rfl, rfl, rfl, rfl, rfl, rfl, rfl, rfl, rfl, rfl,
      ⟨[], (List.append_nil _).symm⟩, fun _ => rfl⟩
  · exact ⟨rfl, rfl, rfl, rfl, rfl, rfl, rfl, rfl, rfl, rfl, rfl, rfl, rfl, rfl, rfl, rfl, rfl,
      ⟨_, rfl⟩, fun _ => rfl⟩
  · exact ⟨rfl, rfl, rfl, rfl, rfl, rfl, rfl, rfl, rfl, rfl, rfl, rfl, rfl, rfl, rfl, rfl, rfl,
      ⟨_, rfl⟩, fun _ => rfl⟩

/-- Where the ring and the stations are the same there is only the list of equal fields. -/
theorem ChoiceFrame.of_engine {s : State} (li : LineInterface) (le : LineEngine) (n : BitVec 4)
    (ru : RequestUnit) (free : Chain) (hparams : le.params = s.le.params)
    (hmark : le.stopMark = s.le.stopMark) (hstaging : ru.staging = s.ru.staging) :
    ChoiceFrame s
      { s with li := li, le := le, pollRun := n, ru := ru, fs := { s.fs with free := free } } :=
  ⟨rfl, hstaging, hparams, hmark, rfl, rfl, rfl, rfl, rfl, rfl, rfl, rfl, rfl, rfl, rfl, rfl, rfl,
    ⟨[], (List.append_nil _).symm⟩, fun _ => rfl⟩

theorem leaveSource_choiceFrame (c : Candidate) (s : State) : ChoiceFrame s (c.leaveSource s) := by
  cases c with
  | deferred d => exact .of_engine s.li _ s.pollRun s.ru s.fs.free rfl rfl rfl
  | urgent r l => exact .of_engine s.li s.le s.pollRun _ s.fs.free rfl rfl rfl
  | normal r l => exact .of_engine s.li s.le s.pollRun _ s.fs.free rfl rfl rfl
  | offer o => exact (takeOffer_change o s).choiceFrame

theorem dispatch_choiceFrame (c : Candidate) (chain : Chain) (s : State) :
    ChoiceFrame s (dispatch c chain s) := by
  refine (leaveSource_choiceFrame c s).trans ?_
  obtain ⟨l, e, a, heq, -⟩ := startAttempt_change (c.transaction s chain)
    { c.leaveSource s with pollRun := c.pollRunAfter (c.leaveSource s).pollRun }
  unfold dispatch
  simp only
  rw [heq]
  exact .of_engine l _ _ _ _ rfl rfl rfl

theorem settle_choiceFrame (s : State) : ChoiceFrame s s.settle := by
  refine (formOffer_change s).choiceFrame.trans
    (arbitrate_induct (ChoiceFrame s.formOffer) ?_ ?_ _ _ (.refl _))
  · exact fun t c u h _ hu => h.trans (turnedAway_choiceFrame hu)
  · intro t c n h _ _ _ _ _
    exact (h.trans (.of_engine t.li t.le t.pollRun t.ru _ rfl rfl rfl)).trans (dispatch_choiceFrame c _ _)

/-- An engine that is not IDLE is left alone, and so are the blocks and the queues. -/
theorem settle_of_busy {s : State} (h : s.le.state ≠ .idle) :
    s.settle.le = s.le ∧ s.settle.li = s.li ∧ s.settle.ru = s.ru ∧ s.settle.cq = s.cq ∧
      s.settle.fs = s.fs := by
  obtain ⟨_, _, _, heq, -⟩ := formOffer_change s
  have hacts : s.formOffer.arbiterActs = false := arbiterActs_of_state (by rw [heq]; exact h)
  have hsettle : s.settle = s.formOffer := arbitrate_idle _ _ hacts
  rw [hsettle, heq]
  exact ⟨rfl, rfl, rfl, rfl, rfl⟩

end Sys2Proof.Machine

namespace Sys2Proof.Proofs

open Sys2Proof.Machine

/-- Settles O50, by the branches of one turn of the arbiter; a turn that ends a candidate leaves enough
turns for the rest (`arbitrate_more`). -/
theorem arbiterChooses : Obligations.ArbiterChooses := by
  unfold Obligations.ArbiterChooses
  intro s h
  refine ⟨fun c t _ hacts hc ht => settle_turnedAway h hacts hc ht, fun c hacts hc ht hfree => ?_,
    fun c hacts hc ht hfree => settle_waits h hacts hc ht hfree, settle_nothing h, arbiterActs_iff s,
    fun d => ⟨rfl, rfl⟩, fun r rest => ⟨rfl, rfl⟩, fun o => rfl⟩
  rw [settle_dispatches h hacts hc ht hfree]
  simp only [dispatch, leaveSource_pollRun]
  cases c <;> rfl

/-- Settles O51: forming the offer is a change of the cycle, and the arbiter's turns leave the frame one by
one. -/
theorem settleFrame : Obligations.SettleFrame := by
  unfold Obligations.SettleFrame
  intro s
  obtain ⟨h1, h2, h3, h4, h5, h6, h7, h8, h9, h10, h11, h12, h13, h14, h15, h16, h17, h18, h19⟩ :=
    settle_choiceFrame s
  exact ⟨h1, h2, h3, h4, h5, h6, h7, h8, h9, h10, h11, h12, h13, h14, h15, h16, h17, h18, h19,
    settle_of_busy⟩

end Sys2Proof.Proofs

/-! PROOF. Reports, installations and ends (O16, O24, O46, O47, O49): what each of the engine's operations
leaves, case by case (R51, R55, R56, R70 to R73, R113, R150). -/

namespace Sys2Proof.Machine

/-! ## Station reports (R68 to R73) -/

section
variable (s : State) (i : Fin 32)

/-- A report of an entry that takes part in line work (R68, R78, R85). -/
theorem stationReport_of_active (r : Report) (h : (s.station i).state.active = true) :
    s.stationReport i r =
      { s with
        st :=
          { entries := s.st.entries.set i ((s.station i).afterReport r)
            changes :=
              if (s.station i).state = ((s.station i).afterReport r).state then s.st.changes
              else
                notedIn s.st.changes i (s.station i).state ((s.station i).afterReport r).state
                  s.tb.counter }
        eu := { s.eu with
          latches :=
            if ((s.station i).afterReport r).state = .offline ∧ (s.station i).state ≠ .offline then
              s.eu.latches ||| 0x008#12
            else s.eu.latches } } := by
  simp only [State.stationReport, h, if_true, State.note, State.raiseIf, Bool.and_eq_true,
    decide_eq_true_eq]
  split_ifs <;> rfl

theorem stationReport_of_inactive (r : Report) (h : (s.station i).state.active = false) :
    s.stationReport i r = s := by
  simp [State.stationReport, h]

theorem busyReport_of_active (h : (s.station i).state.active = true) :
    s.busyReport i =
      { s with
        st := { s.st with
          entries := s.st.entries.set i { s.station i with lastReply := some .busy } } } := by
  simp only [State.busyReport, h, if_true]
  rfl

theorem busyReport_of_inactive (h : (s.station i).state.active = false) : s.busyReport i = s := by
  simp [State.busyReport, h]
end

section
variable (e : Station)

/-- Reaching the fail limit sends an entry OFFLINE; below it the entry goes where it is sent (R72). -/
theorem failTo_below {n : BitVec 4} {st : StationState} (h : n.toNat < e.failLimit.toNat) :
    e.failTo n st = { e with failCount := n, state := st } := if_neg (by omega)

theorem failTo_reached {n : BitVec 4} {st : StationState} (h : e.failLimit.toNat ≤ n.toNat) :
    e.failTo n st = { e with failCount := n, state := .offline, countdown := e.probeInterval } :=
  if_pos h

theorem classMatches_iff (c : Byte) :
    e.classMatches c = true ↔ e.expectedClass = 0 ∨ e.expectedClass = c := by
  simp [Station.classMatches]

/-- A failed report of an entry that counts its failures (R72). -/
theorem failed_of_counting (h : e.state = .degraded ∨ e.state = .probing) :
    e.failed = e.failTo (e.failCount + 1) e.state := by
  rcases h with h | h <;> simp only [Station.failed, h]
end

/-! ## Installations (R150) -/

section
variable (s : State) (i : Fin 32) (chain : Chain) (length : BitVec 7) (kind : SnapKind)

theorem install_of_unpinned (h : (s.snapshot i).pinned = false) :
    s.install i chain length kind =
      { s with
        fs := { s.fs with
          free := s.fs.free ++ replyChain (s.snapshot i).current
          snapshots := s.fs.snapshots.set i
            { s.snapshot i with
              current :=
                some { chain := chain, length := length, kind := kind, stamp := s.tb.counter }
              generation := (s.snapshot i).generation + 1 } }
        eu := { s.eu with
          latches := if (s.station i).watch then s.eu.latches ||| 0x800#12 else s.eu.latches } } := by
  simp only [State.install, h, Bool.false_eq_true, if_false, State.raiseIf]
  split_ifs <;> rfl

theorem install_of_pinned (h : (s.snapshot i).pinned = true) :
    s.install i chain length kind =
      { s with
        fs := { s.fs with
          free := s.fs.free ++ replyChain (s.snapshot i).next
          snapshots := s.fs.snapshots.set i
            { s.snapshot i with
              next := some { chain := chain, length := length, kind := kind, stamp := s.tb.counter }
              generation := (s.snapshot i).generation + 1 } }
        eu := { s.eu with
          latches := if (s.station i).watch then s.eu.latches ||| 0x800#12 else s.eu.latches } } := by
  simp only [State.install, h, if_true, State.raiseIf]
  split_ifs <;> rfl
end

/-! ## The engine is free (R60) -/

/-- The engine as it is left without a transaction: STOPPED when the stop mark was set, else IDLE. -/
theorem engineFree_of {s : State} {mark : Bool} (h : s.le.stopMark = mark) :
    s.engineFree =
      { s with
        le := { s.le with
          state := if mark then .stopped else .idle
          stopMark := false, current := none, attempt := Attempt.blank }
        eu := { s.eu with
          latches := if mark then s.eu.latches ||| 0x200#12 else s.eu.latches } } := by
  obtain ⟨li, ⟨state, current, attempt, deferred, expired, stopMark, rest⟩, others⟩ := s
  obtain rfl : stopMark = mark := h
  cases stopMark <;> rfl

/-! ## The end of a transaction (R56) -/

/-- What a final result's report leaves, for a transaction that has a target. -/
def State.reported (s : State) (target : Option (Fin 32)) (r : Report) : State :=
  match target with
  | some i => s.stationReport i r
  | none => s

/-- The payload chain is freed, and the reserved blocks that the reply does not need. -/
def State.unreserved (s : State) (x : Transaction) (r : Result) : State :=
  { s with
    fs := { s.fs with
      free := s.fs.free ++ x.payload ++ x.reservation.drop (r.keptBlocks x.reservation.length) } }

section
variable (s : State) (x : Transaction) (r : Result)

theorem handOn_of_request {tag : Word} (h : x.origin = .request tag) :
    handOn x r s =
      ((s.unreserved x r).reported x.target r.report).post
        (x.finalRecord tag r s.le.attempt.toggle
          (x.reservation.take (r.keptBlocks x.reservation.length))) := by
  simp only [handOn, h]
  cases x.target <;> rfl

/-- A cycle item hands its reply on to its station's snapshot. -/
theorem handOn_of_item (h : x.isRequest = false) :
    handOn x r s =
      ((s.unreserved x r).reported x.target r.report).cycleReply x.target
        (match x.target with
          | some i => decide ((s.station i).state = .disabled)
          | none => false) r
        (x.reservation.take (r.keptBlocks x.reservation.length)) := by
  have hnot : ∀ tag, x.origin ≠ .request tag := by
    rintro tag htag
    simp [Transaction.isRequest, htag] at h
  unfold handOn
  cases horigin : x.origin with
  | request tag => exact absurd horigin (hnot tag)
  | pollSlot | readSlot | probe => cases x.target <;> rfl

theorem cycleReply_of_disabled (target : Option (Fin 32)) (chain : Chain) :
    s.cycleReply target true r chain = s.freeChain chain := by
  unfold State.cycleReply
  split <;> rfl

theorem cycleReply_of_unkept (target : Option (Fin 32)) (disabled : Bool) (chain : Chain)
    (hdata : ∀ len e b, r ≠ .reply .data len e b) (hident : ∀ len e b, r ≠ .reply .ident len e b) :
    s.cycleReply target disabled r chain = s.freeChain chain := by
  unfold State.cycleReply
  split
  · exact absurd rfl (hdata _ _ _)
  · exact absurd rfl (hident _ _ _)
  · rfl

theorem stationReport_stopMark (i : Fin 32) (p : Report) :
    (s.stationReport i p).le.stopMark = s.le.stopMark := by
  cases h : (s.station i).state.active with
  | true => rw [stationReport_of_active s i p h]
  | false => rw [stationReport_of_inactive s i p h]

theorem reported_stopMark (target : Option (Fin 32)) (p : Report) :
    (s.reported target p).le.stopMark = s.le.stopMark := by
  cases target with
  | none => rfl
  | some i => exact stationReport_stopMark s i p

theorem install_stopMark (i : Fin 32) (chain : Chain) (length : BitVec 7) (kind : SnapKind) :
    (s.install i chain length kind).le.stopMark = s.le.stopMark := by
  cases h : (s.snapshot i).pinned with
  | true => rw [install_of_pinned s i chain length kind h]
  | false => rw [install_of_unpinned s i chain length kind h]
end

/-! ## The retry decision (R49, R50) -/

section
variable (s : State) (x : Transaction)

theorem retryDecision_ends (h : x.cancel = true ∨ 1 + x.retryLimit.toNat ≤ x.attempts.toNat) :
    retryDecision x s = endTransaction x x.roundResult s := by
  refine if_neg fun hgo => ?_
  simp only [Bool.and_eq_true, Bool.not_eq_true', decide_eq_true_eq] at hgo
  rcases h with h | h
  · simp [h] at hgo
  · omega

/-- The engine in HOLDING with a transaction. -/
def State.holding (s : State) (x : Transaction) : State :=
  { s with le := { s.le with state := .holding, current := some x, attempt := Attempt.blank } }

theorem retryDecision_holds (hcancel : x.cancel = false)
    (hleft : x.attempts.toNat < 1 + x.retryLimit.toNat) :
    retryDecision x s =
      if s.li.monitor = .quiet then nextAttempt x (s.holding x) else s.holding x := by
  have hgo : (!x.cancel && decide (x.attempts.toNat < 1 + x.retryLimit.toNat)) = true := by
    simp [hcancel, hleft]
  exact if_pos hgo

theorem nextAttempt_lost (h : s.targetLost x = true) :
    nextAttempt x s = endTransaction x x.roundResult s := if_pos h

theorem nextAttempt_starts (h : s.targetLost x = false) :
    nextAttempt x s = startAttempt { x with attempts := x.attempts + 1 } s :=
  if_neg (by simp [h])

/-! ## BUSY (R51, R52) -/

/-- A list of fewer than four entries leaves a name free. -/
theorem freshId_fresh {l : List Deferred} (h : l.length < 4) : ∀ d ∈ l, d.id ≠ freshId l := by
  have hfree : ∃ i : Fin 4, ∀ d ∈ l, d.id ≠ i := by
    by_contra hnone
    push Not at hnone
    have hsub : (List.finRange 4) ⊆ l.map Deferred.id := fun i _ =>
      have ⟨d, hd, hid⟩ := hnone i
      List.mem_map.mpr ⟨d, hd, hid⟩
    have := ((List.nodup_finRange 4).subperm hsub).length_le
    simp at this
    omega
  obtain ⟨i, hi⟩ := hfree
  have hsome : ((List.finRange 4).find? fun i => l.all fun d => decide (d.id ≠ i)).isSome := by
    rw [List.find?_isSome]
    exact ⟨i, List.mem_finRange i, by simpa using hi⟩
  obtain ⟨j, hj⟩ := Option.isSome_iff_exists.mp hsome
  have hall := List.find?_some hj
  rw [freshId, hj]
  simpa using hall

/-- A deferral (R51). -/
theorem defer_eq :
    s.defer x =
      { s with
        fs := { s.fs with free := s.fs.free ++ x.reservation }
        le := { s.le with
          state := if s.le.stopMark then .stopped else .idle
          stopMark := false
          current := none
          attempt := Attempt.blank
          deferred := s.le.deferred ++
            [{ id := freshId s.le.deferred
               txn := { x with busyCount := x.busyCount + 1, reservation := [] }
               holdoff := s.le.params.holdoff }] }
        eu := { s.eu with
          latches := if s.le.stopMark then s.eu.latches ||| 0x200#12 else s.eu.latches } } :=
  engineFree_of (s := { s with
    fs := { s.fs with free := s.fs.free ++ x.reservation }
    le := { s.le with deferred := s.le.deferred ++
      [{ id := freshId s.le.deferred
         txn := { x with busyCount := x.busyCount + 1, reservation := [] }
         holdoff := s.le.params.holdoff }] } }) rfl

theorem busyReport_le (i : Fin 32) : (s.busyReport i).le = s.le := by
  cases h : (s.station i).state.active with
  | true => rw [busyReport_of_active s i h]
  | false => rw [busyReport_of_inactive s i h]

/-- A BUSY report leaves the busy limit of its station. -/
theorem busyReport_busyLimit (i : Fin 32) :
    ((s.busyReport i).station i).busyLimit = (s.station i).busyLimit := by
  cases h : (s.station i).state.active with
  | true =>
    simp only [State.busyReport, h, if_true, State.station_setStation_same]
  | false => rw [busyReport_of_inactive s i h]

/-- The BUSY decision, for a transaction that has a target (R51). -/
theorem busyDecision_eq {i : Fin 32} (h : x.target = some i) :
    busyDecision x s =
      if x.cancel = false ∧ x.busyCount.toNat < (s.station i).busyLimit.toNat ∧
          s.le.deferred.length < 4 then
        (s.busyReport i).defer x
      else endTransaction x (.reply .busy 0 false 0) (s.busyReport i) := by
  simp only [busyDecision, h, State.busyLimit, busyReport_busyLimit, busyReport_le, Bool.and_eq_true,
    Bool.not_eq_true', decide_eq_true_eq, and_assoc]
end

end Sys2Proof.Machine

namespace Sys2Proof.Proofs

open Sys2Proof.Machine

/-- Settles O16: the reports by the state of the entry, then what they change of the part. -/
theorem stationReports : Obligations.StationReports := by
  unfold Obligations.StationReports
  refine ⟨fun e k tg c => ?_, fun s i r =>
    ⟨stationReport_of_active s i r, busyReport_of_active s i,
      fun h => ⟨stationReport_of_inactive s i r h, busyReport_of_inactive s i h⟩⟩⟩
  refine ⟨?_, ?_, ?_, ?_, ?_, ?_, ?_, ?_, ?_, ?_, ?_, ?_⟩
  case _ => rintro (h | h) <;> simp only [Station.afterReport, Station.answered, h]
  case _ => rintro (h | h) <;> simp only [Station.afterReport, Station.answered, h]
  case _ => intro h; simp only [Station.afterReport, Station.answered, h]
  case _ =>
    intro h
    simp only [Station.afterReport, Station.identified, if_pos ((classMatches_iff e c).mpr h)]
  case _ =>
    intro hany hclass
    have hnot : ¬e.classMatches c = true := by
      rw [classMatches_iff, not_or]
      exact ⟨hany, hclass⟩
    simp only [Station.afterReport, Station.identified, if_neg hnot]
  case _ =>
    intro h hlimit
    simp only [Station.afterReport, Station.failed, h]
    rw [failTo_below e (by simpa using hlimit)]
  case _ =>
    intro h hlimit
    simp only [Station.afterReport, Station.failed, h]
    rw [failTo_reached e (by simpa using hlimit)]
  case _ =>
    intro h hlimit
    show e.failed = _
    rw [failed_of_counting e h, failTo_below e hlimit]
  case _ =>
    intro h hlimit
    show e.failed = _
    rw [failed_of_counting e h, failTo_reached e hlimit]
  case _ => intro h; simp only [Station.afterReport, Station.failed, h]
  case _ => intro h; simp only [Station.afterReport, Station.failed, h]
  case _ => intro r h; simp only [Station.afterReport, h]

/-- Settles O24, by the pin of the record. -/
theorem snapshotInstall : Obligations.SnapshotInstall := by
  unfold Obligations.SnapshotInstall
  exact ⟨⟨rfl, fun r => rfl⟩, fun s i chain length kind =>
    ⟨rfl, install_of_unpinned s i chain length kind, install_of_pinned s i chain length kind⟩⟩

/-- Settles O47: the transaction hands its blocks and its result on, by its origin, and then the engine is
free. -/
theorem transactionEnd : Obligations.TransactionEnd := by
  unfold Obligations.TransactionEnd
  refine ⟨fun s x r => ⟨fun tag horigin => ?_, fun i len e b hitem htarget hstate => ?_,
    fun i hitem htarget hunkept => ?_⟩, fun sent e n b c k blocks => ?_⟩
  case refine_1 =>
    rw [endTransaction, handOn_of_request s x r horigin]
    exact engineFree_of (reported_stopMark (s.unreserved x r) x.target r.report)
  case refine_2 =>
    have henabled : decide ((s.station i).state = .disabled) = false := decide_eq_false hstate
    constructor <;>
    · rintro rfl
      rw [endTransaction, handOn_of_item s x _ hitem]
      simp only [htarget, henabled, State.cycleReply, Bool.false_eq_true, if_false]
      exact engineFree_of ((install_stopMark _ i _ _ _).trans (reported_stopMark _ (some i) _))
  case refine_3 =>
    rw [endTransaction, handOn_of_item s x r hitem]
    have hfreed (t : State) (chain : Chain) :
        t.cycleReply x.target (decide ((s.station i).state = .disabled)) r chain =
          t.freeChain chain := by
      rcases hunkept with hdisabled | ⟨hdata, hident⟩
      · rw [decide_eq_true hdisabled, cycleReply_of_disabled]
      · exact cycleReply_of_unkept t r _ _ chain hdata hident
    simp only [htarget] at hfreed ⊢
    rw [hfreed]
    exact engineFree_of (reported_stopMark (s.unreserved x r) (some i) r.report)
  case refine_4 =>
    refine ⟨⟨rfl, rfl, rfl⟩, ⟨?_, rfl, rfl⟩, ⟨?_, rfl, ?_⟩, ⟨rfl, rfl, rfl⟩, ⟨rfl, rfl, rfl⟩,
      ⟨rfl, rfl, rfl⟩, ⟨rfl, rfl, rfl⟩, fun hk => ⟨rfl, rfl, ?_⟩, ⟨rfl, rfl, rfl⟩, ⟨rfl, rfl, rfl⟩,
      ⟨rfl, rfl, rfl⟩, ⟨rfl, rfl, rfl⟩, ⟨rfl, rfl, rfl⟩, fun r => ⟨rfl, ?_, ?_⟩, rfl, rfl, rfl, rfl, rfl,
      rfl, rfl, rfl⟩
    · simp [Result.outcome]
    · simp [Result.outcome]
    · simp [Result.report, Result.toggleChange]
    · cases k with
      | ident => exact absurd rfl hk
      | data | ack | nak | busy => rfl
    · rintro (rfl | ⟨_, rfl⟩ | rfl | rfl | rfl) <;> exact ⟨rfl, rfl, rfl⟩
    · intro hident
      cases r with
      | reply k n e b =>
        cases k with
        | ident => exact absurd rfl (hident n e b)
        | data | ack | nak | busy => rfl
      | overlength | noReply | corrupt | wrongStation | collision | sent => rfl

/-- Settles O46: the decision of each result, and the free name of a deferral. -/
theorem attemptResults : Obligations.AttemptResults := by
  unfold Obligations.AttemptResults
  refine ⟨fun s x => ⟨fun k len e b hk => ?_, fun k => rfl, rfl, fun r y hry => ?_,
    fun i len e b htarget => ?_, fun h => ?_, fun h => ?_, fun c h => ?_, fun h => ?_⟩,
    fun s x _ hlen => ⟨freshId s.le.deferred, freshId_fresh hlen, defer_eq s x⟩⟩
  case refine_1 =>
    cases k with
    | busy => exact absurd rfl hk
    | data | ack | nak | ident => rfl
  case refine_2 =>
    have hdecision : attemptEnds x r s = retryDecision y s ∧ y.cancel = x.cancel ∧
        y.attempts = x.attempts ∧ y.retryLimit = x.retryLimit := by
      rcases hry with ⟨rfl, rfl⟩ | ⟨c, rfl, rfl⟩ | ⟨rfl, rfl⟩ | ⟨rfl, rfl⟩ <;>
        exact ⟨rfl, rfl, rfl, rfl⟩
    obtain ⟨hdecision, hcancel, hattempts, hlimit⟩ := hdecision
    rw [hdecision, ← hcancel, ← hattempts, ← hlimit]
    refine ⟨retryDecision_ends s y, fun hc ha hactive => ?_, fun hc ha hquiet hlost => ?_,
      fun hc ha hquiet hkept => ?_⟩
    · rw [retryDecision_holds s y hc ha, if_neg (by rw [hactive]; decide)]
      rfl
    · rw [retryDecision_holds s y hc ha, if_pos hquiet]
      exact nextAttempt_lost (s.holding y) y hlost
    · rw [retryDecision_holds s y hc ha, if_pos hquiet]
      exact nextAttempt_starts (s.holding y) y hkept
  case refine_3 =>
    show (¬_ → busyDecision x s = _) ∧ (_ → busyDecision x s = _)
    rw [busyDecision_eq s x htarget]
    exact ⟨fun h => if_neg h, fun h => if_pos h⟩
  all_goals simp only [Transaction.roundResult, h]

/-- Settles O49: the check looks at the state of the target, and what it does is read off the source. -/
theorem stationCheck : Obligations.StationCheck := by
  unfold Obligations.StationCheck
  refine ⟨fun st hst k hk => ?_, fun s => ⟨fun r rest i hi => ?_, fun r rest hnone => ?_,
    fun d i tag hi htag => ?_, fun d i hi horigin => ?_, fun o => rfl, fun chain => rfl⟩⟩
  case refine_1 =>
    cases st with
    | unconfigured => exact absurd rfl hst
    | disabled | probing | online | degraded | offline | mismatched => rfl
  case refine_2 =>
    have hcheck : s.checkTarget r.kind r.station = Machine.stationCheck r.kind (s.station i).state := by
      rw [hi]; rfl
    refine ⟨fun h => ?_, fun o h => ?_⟩ <;>
      simp only [Candidate.turnedAway, hcheck, h] <;> exact ⟨rfl, rfl⟩
  case refine_3 =>
    have hcheck : s.checkTarget r.kind r.station = none := by rw [hnone]; rfl
    simp only [Candidate.turnedAway, hcheck]
    exact ⟨rfl, rfl⟩
  case refine_4 =>
    have hcheck : s.checkTarget d.txn.kind d.txn.target =
        Machine.stationCheck d.txn.kind (s.station i).state := by
      rw [hi]; rfl
    refine ⟨fun h => ?_, fun o h => ?_⟩ <;>
      simp only [Candidate.turnedAway, State.endDeferred, htag, hcheck, h] <;> rfl
  case refine_5 =>
    have hpolled : s.stillPolled d.txn = (s.station i).state.polled := by
      rw [State.stillPolled, hi]
    have haway : (Candidate.deferred d).turnedAway s =
        if (s.station i).state.polled then none else some (s.removeDeferred d.id) := by
      rcases horigin with horigin | horigin <;> simp only [Candidate.turnedAway, horigin, hpolled]
    rw [haway]
    cases h : (s.station i).state <;> simp [StationState.polled]

end Sys2Proof.Proofs

/-! PROOF. The end of an attempt as a chain of moves: station reports (R68 to R73), the end of a transaction
(R56), its deferral (R51), the retry decision (R49, R50) and the characters of a reply (R27 to R31). -/

namespace Sys2Proof.Machine

/-! ## Station reports keep the entries (R66, R74) and the notices (R85) -/

theorem Station.Kept.trans {e f g : Station} (h : e.Kept f) (k : f.Kept g) : e.Kept g :=
  ⟨k.fits ∘ h.fits, fun hg =>
    have ⟨hf, haddress⟩ := k.address hg
    have ⟨he, haddress'⟩ := h.address hf
    ⟨he, haddress.trans haddress'⟩⟩

theorem StationState.ne_unconfigured_of_active {st : StationState} (h : st.active = true) :
    st ≠ .unconfigured := by
  rintro rfl
  cases h

/-- A configured entry stays configured, with the configuration that rules judge; its fail count fits where
it did. -/
theorem Station.Kept.of_known {e e' : Station} (h : e.state ≠ .unconfigured)
    (haddress : e'.address = e.address) (hfail : e'.failLimit = e.failLimit)
    (hblocks : e'.replyBlocks = e.replyBlocks) (hprobe : e'.probeInterval = e.probeInterval)
    (h' : e'.state ≠ .unconfigured)
    (hcount : e.failLimit ≠ 0 → e.failCountFits = true → e'.failCountFits = true) : e.Kept e' := by
  refine ⟨fun ⟨hconfig, hfits⟩ => ?_, fun _ => ⟨h, haddress⟩⟩
  unfold Station.Fits Station.configFits at *
  rw [if_neg h] at hconfig
  rw [if_neg h', haddress, hfail, hblocks, hprobe]
  simp only [Bool.and_eq_true, decide_eq_true_eq] at hconfig
  exact ⟨by simpa using hconfig, hcount hconfig.1.1.2 hfits⟩

/-- An entry in line work stays in it. -/
theorem Station.Kept.of_configured {e e' : Station} (h : e.state.active = true)
    (haddress : e'.address = e.address) (hfail : e'.failLimit = e.failLimit)
    (hblocks : e'.replyBlocks = e.replyBlocks) (hprobe : e'.probeInterval = e.probeInterval)
    (hactive : e'.state.active = true)
    (hcount : e.failLimit ≠ 0 → e.failCountFits = true → e'.failCountFits = true) : e.Kept e' :=
  .of_known (StationState.ne_unconfigured_of_active h) haddress hfail hblocks hprobe
    (StationState.ne_unconfigured_of_active hactive) hcount

/-- A fail limit that is not 0 is above 0. -/
theorem failLimit_pos {n : BitVec 4} (h : n ≠ 0) : 0 < n.toNat := by
  rcases Nat.eq_zero_or_pos n.toNat with h0 | h0
  · exact absurd (BitVec.eq_of_toNat_eq (by simpa using h0)) h
  · exact h0

section
variable (e : Station) (h : e.state.active = true)
include h

theorem Station.kept_answered : e.Kept e.answered := by
  have hcases : e.state = .probing ∨ e.state = .online ∨ e.state = .degraded ∨ e.state = .offline ∨
      e.state = .mismatched := by
    cases hstate : e.state <;> simp [hstate, StationState.active] at h ⊢
  rcases hcases with hs | hs | hs | hs | hs <;> simp only [Station.answered, hs] <;>
    refine .of_configured h rfl rfl rfl rfl rfl fun hlimit _ => ?_ <;>
    have := failLimit_pos hlimit <;> simp [Station.failCountFits, this]

theorem Station.kept_identified (c : Byte) : e.Kept (e.identified c) := by
  unfold Station.identified
  split_ifs <;>
    exact .of_configured h rfl rfl rfl rfl rfl fun _ _ => by simp [Station.failCountFits]

/-- One more failure keeps the entry, where the count fits below the limit in the state it is sent to. -/
theorem Station.kept_failTo (n : BitVec 4) (below : StationState) (hbelow : below.active = true)
    (hcount : e.failLimit ≠ 0 → e.failCountFits = true →
      ({ e with failCount := n, state := below } : Station).failCountFits = true ∨
        e.failLimit.toNat ≤ n.toNat)
    (hreach : e.failLimit ≠ 0 → e.failCountFits = true → n.toNat ≤ e.failLimit.toNat) :
    e.Kept (e.failTo n below) := by
  unfold Station.failTo
  split_ifs with hlimit
  · refine .of_configured h rfl rfl rfl rfl rfl fun hpos hfits => ?_
    have := hreach hpos hfits
    simp only [Station.failCountFits, decide_eq_true_eq]
    omega
  · exact .of_configured h rfl rfl rfl rfl hbelow fun hpos hfits =>
      (hcount hpos hfits).resolve_right hlimit

theorem Station.kept_failed : e.Kept e.failed := by
  have hsucc (n : BitVec 4) (hn : n.toNat < e.failLimit.toNat) : (n + 1).toNat = n.toNat + 1 := by
    have := e.failLimit.isLt
    rw [BitVec.toNat_add]
    simp
    omega
  cases hs : e.state with
  | unconfigured | disabled => simp [hs, StationState.active] at h
  | mismatched =>
    simp only [Station.failed, hs]
    exact .refl e
  | offline =>
    simp only [Station.failed, hs]
    exact .of_configured h rfl rfl rfl rfl rfl fun _ hfits => by
      simpa [Station.failCountFits, hs] using hfits
  | online =>
    simp only [Station.failed, hs]
    refine e.kept_failTo h 1 .degraded rfl (fun hpos _ => ?_) fun hpos _ => failLimit_pos hpos
    simp only [Station.failCountFits, decide_eq_true_eq]
    have hone : (1 : BitVec 4).toNat = 1 := rfl
    omega
  | degraded =>
    simp only [Station.failed, hs]
    refine e.kept_failTo h _ .degraded rfl (fun _ hfits => ?_) fun _ hfits => ?_ <;>
      simp only [Station.failCountFits, hs, decide_eq_true_eq] at hfits ⊢ <;>
      rw [hsucc _ hfits.2] <;> omega
  | probing =>
    simp only [Station.failed, hs]
    refine e.kept_failTo h _ .probing rfl (fun _ hfits => ?_) fun _ hfits => ?_ <;>
      simp only [Station.failCountFits, hs, decide_eq_true_eq] at hfits ⊢ <;>
      rw [hsucc _ hfits] <;> omega

/-- Below its toggle and its last reply, an answered report leaves an entry that is still active. -/
theorem Station.heard_active (r : Report) :
    (match r.identClass with
      | some c => e.identified c
      | none => e.answered).state.active = true := by
  cases r.identClass with
  | some c =>
    simp only [Station.identified]
    split_ifs <;> rfl
  | none => cases hs : e.state <;> simp [Station.answered, hs, StationState.active] at h ⊢

theorem Station.kept_afterReport (r : Report) : e.Kept (e.afterReport r) := by
  unfold Station.afterReport
  split
  · exact .refl e
  · exact e.kept_failed h
  · have hactive := e.heard_active h r
    have hkept : e.Kept (match r.identClass with
        | some c => e.identified c
        | none => e.answered) := by
      cases r.identClass with
      | none => exact e.kept_answered h
      | some c => exact e.kept_identified h c
    refine hkept.trans (.of_configured hactive rfl rfl rfl rfl hactive fun _ hfits => ?_)
    exact hfits
end

/-! ## Reports as moves -/

theorem changes_map_station (q : List Notice) (f : Notice → Notice) (h : ∀ n, (f n).station = n.station) :
    (q.map f).map Notice.station = q.map Notice.station := by
  rw [List.map_map]
  exact List.map_congr_left fun n _ => h n

/-- A note keeps at most one notice per station (R85). -/
theorem notedIn_nodup {q : List Notice} (h : (q.map Notice.station).Nodup) (i : Fin 32)
    (old new : StationState) (stamp : Stamp) :
    ((notedIn q i old new stamp).map Notice.station).Nodup := by
  unfold notedIn
  split_ifs with hany
  · rw [changes_map_station]
    · exact h
    · intro n
      split_ifs <;> rfl
  · have hnot : i ∉ q.map Notice.station := by
      simpa using hany
    rw [List.map_append, List.nodup_append]
    refine ⟨h, List.nodup_singleton _, ?_⟩
    rintro a ha b hb rfl
    obtain rfl := List.mem_singleton.mp hb
    exact hnot ha

/-- The entry of one station is replaced, with what is kept of it. -/
theorem stations_kept_set {s t : State} {i : Fin 32} {e : Station}
    (hentries : t.st.entries = s.st.entries.set i e) (h : (s.station i).Kept e) :
    s.StationsFit → s.AddressesDistinct → t.StationsFit ∧ t.AddressesDistinct := by
  refine stations_kept fun j => ?_
  rw [show t.station j = if j = i then e else s.station j by
    rw [State.station, hentries, vector_get_set]; rfl]
  split_ifs with hj
  · rw [hj]; exact h
  · exact .refl _

section
variable (s : State) (i : Fin 32)

theorem stationReport_path (r : Report) : Path s (s.stationReport i r) := by
  cases h : (s.station i).state.active with
  | false => rw [stationReport_of_inactive s i r h]; exact .refl s
  | true =>
    rw [stationReport_of_active s i r h]
    refine .aside ⟨rfl, rfl, rfl, rfl, rfl, rfl, rfl, rfl, rfl, rfl, rfl⟩
      ⟨id, fun hl => ?_, id, fun hn => ?_, id,
        stations_kept_set rfl ((s.station i).kept_afterReport h r)⟩ ⟨rfl, rfl, rfl, rfl, rfl, id⟩
    · show (if _ then _ else _) &&& _ = _
      split_ifs
      · exact latches_or_bit (e := .stationOffline) hl rfl
      · exact hl
    · show (List.map Notice.station (if _ then _ else _)).Nodup
      split_ifs
      · exact hn
      · exact notedIn_nodup hn _ _ _ _

theorem reported_path (target : Option (Fin 32)) (r : Report) : Path s (s.reported target r) := by
  cases target with
  | none => exact .refl s
  | some i => exact stationReport_path s i r

theorem busyReport_path : Path s (s.busyReport i) := by
  cases h : (s.station i).state.active with
  | false => rw [busyReport_of_inactive s i h]; exact .refl s
  | true =>
    rw [busyReport_of_active s i h]
    exact .aside ⟨rfl, rfl, rfl, rfl, rfl, rfl, rfl, rfl, rfl, rfl, rfl⟩
      ⟨id, id, id, id, id,
        stations_kept_set rfl (.of_configured h rfl rfl rfl rfl h fun _ hfits => hfits)⟩
      ⟨rfl, rfl, rfl, rfl, rfl, id⟩

/-- A report changes the stations, the notices and the latches, so that it may be taken before blocks
are freed. -/
theorem stationReport_comm (r : Report) (f : FrameStore) :
    ({ s with fs := f } : State).stationReport i r = { s.stationReport i r with fs := f } := by
  cases h : (s.station i).state.active with
  | false =>
    rw [stationReport_of_inactive s i r h]
    exact stationReport_of_inactive { s with fs := f } i r h
  | true =>
    rw [stationReport_of_active s i r h]
    exact stationReport_of_active { s with fs := f } i r h

theorem reported_comm (target : Option (Fin 32)) (r : Report) (f : FrameStore) :
    ({ s with fs := f } : State).reported target r = { s.reported target r with fs := f } := by
  cases target with
  | none => rfl
  | some i => exact stationReport_comm s i r f
end

/-- A report leaves the engine, the queue of records, the store and the time base. -/
theorem reported_frame (s : State) (target : Option (Fin 32)) (r : Report) :
    (s.reported target r).le = s.le ∧ (s.reported target r).cq = s.cq ∧
      (s.reported target r).fs = s.fs ∧ (s.reported target r).tb = s.tb := by
  cases target with
  | none => exact ⟨rfl, rfl, rfl, rfl⟩
  | some i =>
    show (s.stationReport i r).le = _ ∧ (s.stationReport i r).cq = _ ∧
      (s.stationReport i r).fs = _ ∧ (s.stationReport i r).tb = _
    cases h : (s.station i).state.active with
    | false => rw [stationReport_of_inactive s i r h]; exact ⟨rfl, rfl, rfl, rfl⟩
    | true => rw [stationReport_of_active s i r h]; exact ⟨rfl, rfl, rfl, rfl⟩

/-! ## What a result keeps of its reservation (R28, R131, R148) -/

/-- The blocks that a result keeps are there, and the length it gives is that of a reply. -/
def Result.Fits (r : Result) (reserved : Nat) : Prop :=
  match r with
  | .reply _ len _ _ => len.toNat ≤ 96 ∧ blocksFor len.toNat ≤ reserved
  | .overlength _ | .noReply | .corrupt _ | .wrongStation | .collision | .sent => True

theorem roundResult_fits (x : Transaction) (n : Nat) : x.roundResult.Fits n := by
  unfold Transaction.roundResult
  split <;> trivial

theorem busy_fits (n : Nat) : (Result.reply .busy 0 false 0).Fits n :=
  ⟨Nat.zero_le _, Nat.zero_le _⟩

theorem ReplyKind.InRange.le {k : ReplyKind} {n : Nat} (h : k.InRange n) : n ≤ 96 := by
  cases k <;> simp only [ReplyKind.InRange] at h <;> omega

/-- A well-formed reply fits in the reservation it was received into. -/
theorem judge_fits (s : State) (x : Transaction) (high : Byte) :
    (s.judge x high).Fits x.reservation.length := by
  unfold State.judge
  simp only
  split
  · trivial
  split
  · trivial
  split
  · trivial
  split
  · trivial
  rename_i k hkind
  split
  · trivial
  rename_i hsize
  obtain ⟨-, -, -, hrange⟩ := (fittingKind_eq_some_iff _ _ _ _).mp hkind
  have hlength := hrange.le
  have hwidth : (s.le.attempt.replyLength.setWidth 7).toNat = s.le.attempt.replyLength.toNat := by
    rw [BitVec.toNat_setWidth]
    omega
  constructor
  · omega
  · rw [hwidth]
    unfold blocksFor Config.blockBytes at *
    omega

/-- The record of a final result has the blocks of its reply. -/
theorem finalRecord_chainFits (x : Transaction) (tag : Word) {r : Result} (toggle : Bool)
    (hr : r.Fits x.reservation.length) (stamp : Stamp) {chain : Chain}
    (htake : chain = x.reservation.take (r.keptBlocks x.reservation.length)) (hchain : chain.length ≤ 3) :
    Record.ChainFits { x.finalRecord tag r toggle chain with stamp := stamp } := by
  have hlen : chain.length = min (r.keptBlocks x.reservation.length) x.reservation.length := by
    rw [htake, List.length_take]
  by_cases hnil : chain = []
  · exact .inl hnil
  have hpos : 0 < chain.length := List.length_pos_iff.mpr hnil
  refine .inr ?_
  cases r with
  | reply k len e b =>
    obtain ⟨hle, hblocks⟩ := hr
    have hkept : chain.length = blocksFor len.toNat := by
      rw [hlen]; exact min_eq_left hblocks
    refine ⟨len, rfl, ?_, hle, hkept⟩
    rintro rfl
    rw [hkept] at hpos
    exact absurd hpos (by decide)
  | overlength k =>
    have hkept : chain.length = x.reservation.length := by rw [hlen]; exact min_self _
    have hn : (BitVec.ofNat 7 (Config.blockBytes * x.reservation.length)).toNat =
        32 * x.reservation.length := by
      rw [BitVec.toNat_ofNat]
      unfold Config.blockBytes
      omega
    refine ⟨_, rfl, fun h0 => ?_, by omega, ?_⟩
    · rw [h0, show (0 : BitVec 7).toNat = 0 from rfl] at hn
      omega
    · show chain.length = _
      rw [hn, hkept]
      unfold blocksFor Config.blockBytes
      omega
  | noReply | corrupt | wrongStation | collision | sent =>
    simp [hlen, Result.keptBlocks] at hpos

/-- The reply that an installation keeps has the blocks of its length. -/
theorem installed_chainFits (x : Transaction) {k : ReplyKind} {len : BitVec 7} {e : Bool} {b : Byte}
    (hr : (Result.reply k len e b).Fits x.reservation.length) (kind : SnapKind) (stamp : Stamp) :
    Installed.ChainFits
      { chain := x.reservation.take (blocksFor len.toNat), length := len, kind := kind, stamp := stamp } :=
  ⟨hr.1, by rw [List.length_take]; exact min_eq_left hr.2⟩

/-! ## The end of a transaction as a chain of moves -/

/-- The state that an engine is left in without a transaction. -/
theorem freed_holds (mark : Bool) :
    EngineState.holds (if mark then .stopped else .idle) = false := by
  cases mark <;> rfl

/-- The attempt is blanked and LINE_STOPPED may be raised: what the engine's release adds to a move. -/
theorem release_path (s : State) (mark : Bool) :
    Path s { s with
      le := { s.le with attempt := Attempt.blank }
      eu := { s.eu with latches := if mark then s.eu.latches ||| 0x200#12 else s.eu.latches } } := by
  cases mark with
  | false => exact path_attempt s _
  | true => exact (path_attempt s Attempt.blank).trans (path_raise (e := .lineStopped) _ rfl)

/-- The engine is released after a move that has taken its transaction from it. -/
theorem engineFree_path {s t : State} {mark : Bool} (hmark : t.le.stopMark = mark)
    (h : Path s (t.withoutCurrent (if mark then .stopped else .idle))) : Path s t.engineFree := by
  rw [engineFree_of hmark]
  exact h.trans (release_path _ mark)

section
variable {s : State} {x y : Transaction}

/-- The transaction that ends takes the place of the current one, and its blocks but the kept ones are
freed. -/
theorem unreserve_path (h : s.le.current = some x) (horigin : y.origin = x.origin)
    (hpayload : y.payload = x.payload) (hreserved : y.reservation = x.reservation) (n : Nat) :
    Path s { s with
      le := { s.le with
        current := some { y with payload := [], reservation := y.reservation.take n } }
      fs := { s.fs with free := s.fs.free ++ y.payload ++ y.reservation.drop n } } := by
  let touched : State := { s with le := { s.le with current := some y } }
  let paid : State :=
    { s with
      le := { s.le with current := some { y with payload := [] } }
      fs := { s.fs with free := s.fs.free ++ y.payload } }
  have htouch : Path s touched :=
    (Move.retouch x y h horigin hpayload hreserved).path ⟨rfl, rfl, rfl, rfl, rfl, id⟩
  have hpay : Path touched paid :=
    (Move.freePayload (s := touched) y rfl).path ⟨rfl, rfl, rfl, rfl, rfl, id⟩
  exact (htouch.trans hpay).trans
    ((Move.freeReservation (s := paid) { y with payload := [] } n rfl).path ⟨rfl, rfl, rfl, rfl, rfl, id⟩)

/-- A request ends: its record is posted with the blocks that are kept. -/
theorem endRequest_path {tag : Word} {r : Result} (h : s.le.current = some x)
    (horigin : y.origin = x.origin) (hpayload : y.payload = x.payload)
    (hreserved : y.reservation = x.reservation) (htag : y.origin = .request tag)
    (hr : r.Fits y.reservation.length) (toggle : Bool) :
    Path s (((s.unreserved y r).post
      (y.finalRecord tag r toggle
        (y.reservation.take (r.keptBlocks y.reservation.length)))).engineFree) := by
  have hrequest : y.isRequest = true := by simp [Transaction.isRequest, htag]
  let kept := y.reservation.take (r.keptBlocks y.reservation.length)
  let x' : Transaction := { y with payload := [], reservation := kept }
  let u : State := { s.unreserved y r with le := { s.le with current := some x' } }
  have hu : Path s u :=
    unreserve_path h horigin hpayload hreserved (r.keptBlocks y.reservation.length)
  let e : EngineState := if s.le.stopMark then .stopped else .idle
  let rec' : Record := { y.finalRecord tag r toggle kept with stamp := s.tb.counter }
  let v : State := { u.withoutCurrent e with
    cq := { ring := s.cq.ring ++ [rec'], reserved := s.cq.reserved - 1 } }
  have hv : Path u v := (Move.post (s := u) x' rec' e rfl hrequest rfl rfl
    (finalRecord_chainFits y tag toggle hr s.tb.counter rfl) (freed_holds _)).path
      ⟨rfl, rfl, rfl, rfl, rfl, id⟩
  have hposted : Path v (v.raise .completionPosted) := path_raise v rfl
  exact engineFree_path (mark := s.le.stopMark) rfl ((hu.trans hv).trans hposted)

/-- A cycle item ends whose reply is not kept. -/
theorem dropItem_path (h : s.le.current = some x) (hitem : x.isRequest = false)
    (hpayload : x.payload = []) : Path s ((s.freeChain x.reservation).engineFree) := by
  let x' : Transaction := { x with reservation := x.reservation.take 0 }
  let u : State := { s.freeChain x.reservation with le := { s.le with current := some x' } }
  have hu : Path s u := (Move.freeReservation x 0 h).path ⟨rfl, rfl, rfl, rfl, rfl, id⟩
  let e : EngineState := if s.le.stopMark then .stopped else .idle
  have hdrop : Path u (u.withoutCurrent e) :=
    (Move.drop (s := u) x' e rfl hitem hpayload rfl (freed_holds _)).path ⟨rfl, rfl, rfl, rfl, rfl, id⟩
  exact engineFree_path (mark := s.le.stopMark) rfl (hu.trans hdrop)

/-- A cycle item that holds no block any more is over, and a release follows. -/
theorem dropped_path (h : s.le.current = some x) (hitem : x.isRequest = false)
    (hpayload : x.payload = []) (hreserved : x.reservation = []) (watch : Bool) :
    Path s ({ s with
      eu := { s.eu with latches := if watch then s.eu.latches ||| 0x800#12 else s.eu.latches } }
      : State).engineFree := by
  let e : EngineState := if s.le.stopMark then .stopped else .idle
  have hdrop : Path s (s.withoutCurrent e) :=
    (Move.drop x e h hitem hpayload hreserved (freed_holds _)).path ⟨rfl, rfl, rfl, rfl, rfl, id⟩
  have hraised := path_raiseIf (s.withoutCurrent e) watch (e := .snapshotUpdated) rfl
  refine engineFree_path (mark := s.le.stopMark) rfl (hdrop.trans ?_)
  cases watch <;> exact hraised

/-- A cycle item ends whose reply is installed. -/
theorem installItem_path {i : Fin 32} {len : BitVec 7} {kind : SnapKind}
    (h : s.le.current = some x) (hitem : x.isRequest = false) (hpayload : x.payload = [])
    (hchain : ∀ stamp, Installed.ChainFits
      { chain := x.reservation, length := len, kind := kind, stamp := stamp }) :
    Path s ((s.install i x.reservation len kind).engineFree) := by
  let x' : Transaction := { x with reservation := [] }
  cases hpin : (s.snapshot i).pinned with
  | true =>
    rw [install_of_pinned s i _ len kind hpin]
    have hmove := (Move.installNext x i
      { chain := x.reservation, length := len, kind := kind, stamp := s.tb.counter }
      ((s.snapshot i).generation + 1) h hpin rfl fun _ => hchain _).path ⟨rfl, rfl, rfl, rfl, rfl, id⟩
    exact hmove.trans (dropped_path (x := x') rfl hitem hpayload rfl (s.station i).watch)
  | false =>
    rw [install_of_unpinned s i _ len kind hpin]
    have hmove := (Move.installCurrent x i
      { chain := x.reservation, length := len, kind := kind, stamp := s.tb.counter }
      ((s.snapshot i).generation + 1) h hpin rfl fun _ => hchain _).path ⟨rfl, rfl, rfl, rfl, rfl, id⟩
    exact hmove.trans (dropped_path (x := x') rfl hitem hpayload rfl (s.station i).watch)

/-- An installation changes the store and the latches, whatever transaction the engine holds. -/
theorem install_free_comm (s : State) (c : Option Transaction) (i : Fin 32) (chain : Chain)
    (len : BitVec 7) (kind : SnapKind) :
    (({ s with le := { s.le with current := c } } : State).install i chain len kind).engineFree =
      (s.install i chain len kind).engineFree := by
  cases hpin : (s.snapshot i).pinned with
  | true =>
    rw [install_of_pinned s i chain len kind hpin]
    exact (congrArg State.engineFree
      (install_of_pinned { s with le := { s.le with current := c } } i chain len kind hpin)).trans rfl
  | false =>
    rw [install_of_unpinned s i chain len kind hpin]
    exact (congrArg State.engineFree
      (install_of_unpinned { s with le := { s.le with current := c } } i chain len kind hpin)).trans rfl

/-- What the report leaves, the blocks are freed of. -/
theorem unreserved_reported (s : State) (y : Transaction) (r : Result) (target : Option (Fin 32))
    (p : Report) : (s.unreserved y r).reported target p = (s.reported target p).unreserved y r := by
  obtain ⟨-, -, hfs, -⟩ := reported_frame s target p
  unfold State.unreserved
  rw [reported_comm, hfs]

/-- A cycle item ends: its reply is installed, or dropped. -/
theorem endItem_path {r : Result} (h : s.le.current = some x) (horigin : y.origin = x.origin)
    (hpayload : y.payload = x.payload) (hreserved : y.reservation = x.reservation)
    (hitem : y.isRequest = false) (hr : r.Fits y.reservation.length) (target : Option (Fin 32))
    (disabled : Bool) :
    Path s (((s.unreserved y r).cycleReply target disabled r
      (y.reservation.take (r.keptBlocks y.reservation.length))).engineFree) := by
  let kept := y.reservation.take (r.keptBlocks y.reservation.length)
  let x' : Transaction := { y with payload := [], reservation := kept }
  let u : State := { s.unreserved y r with le := { s.le with current := some x' } }
  have hu : Path s u :=
    unreserve_path h horigin hpayload hreserved (r.keptBlocks y.reservation.length)
  have hdropped : Path s (((s.unreserved y r).freeChain kept).engineFree) :=
    hu.trans (dropItem_path (s := u) (x := x') rfl hitem rfl)
  have hinstalled (i : Fin 32) (len : BitVec 7) (kind : SnapKind)
      (hchain : ∀ stamp, Installed.ChainFits
        { chain := kept, length := len, kind := kind, stamp := stamp }) :
      Path s (((s.unreserved y r).install i kept len kind).engineFree) := by
    have := installItem_path (s := u) (x := x') (i := i) rfl hitem rfl hchain
    rw [← install_free_comm (s.unreserved y r) (some x')]
    exact hu.trans this
  unfold State.cycleReply
  split
  · split
    · exact hdropped
    · exact hinstalled _ _ _ fun stamp => installed_chainFits y hr .data stamp
  · split
    · exact hdropped
    · exact hinstalled _ _ _ fun stamp => installed_chainFits y hr .ident stamp
  · exact hdropped

/-- The end of a transaction is a chain of moves. -/
theorem endTransaction_path {r : Result} (h : s.le.current = some x) (horigin : y.origin = x.origin)
    (hpayload : y.payload = x.payload) (hreserved : y.reservation = x.reservation)
    (hr : r.Fits y.reservation.length) : Path s (endTransaction y r s) := by
  have hreport := reported_path s y.target r.report
  obtain ⟨hle, -⟩ := reported_frame s y.target r.report
  have hcurrent : (s.reported y.target r.report).le.current = some x := by rw [hle]; exact h
  refine hreport.trans ?_
  unfold endTransaction
  cases hrequest : y.isRequest with
  | true =>
    obtain ⟨tag, htag⟩ : ∃ tag, y.origin = .request tag := by
      unfold Transaction.isRequest at hrequest
      split at hrequest
      · exact ⟨_, by assumption⟩
      all_goals cases hrequest
    rw [handOn_of_request s y r htag, unreserved_reported]
    exact endRequest_path hcurrent horigin hpayload hreserved htag hr _
  | false =>
    rw [handOn_of_item s y r hrequest, unreserved_reported]
    exact endItem_path hcurrent horigin hpayload hreserved hrequest hr _ _

/-! ## Deferral, the retry decision and the next attempt (R49 to R51) -/

/-- A deferral is a chain of moves, where the list has room. -/
theorem defer_path (h : s.le.current = some x) (hlen : s.le.deferred.length < 4) :
    Path s (s.defer x) := by
  let x' : Transaction := { x with reservation := x.reservation.take 0 }
  let u : State := { s.freeChain x.reservation with le := { s.le with current := some x' } }
  have hu : Path s u := (Move.freeReservation x 0 h).path ⟨rfl, rfl, rfl, rfl, rfl, id⟩
  let d : Deferred :=
    { id := freshId s.le.deferred
      txn := { x with busyCount := x.busyCount + 1, reservation := [] }
      holdoff := s.le.params.holdoff }
  have hdefer := (Move.defer (s := u) x' d (if s.le.stopMark then .stopped else .idle) rfl rfl hlen
    (freshId_fresh hlen) rfl rfl rfl (freed_holds _)).path ⟨rfl, rfl, rfl, rfl, rfl, id⟩
  rw [defer_eq]
  exact (hu.trans hdefer).trans (release_path _ s.le.stopMark)

theorem busyDecision_path (h : s.le.current = some x) : Path s (busyDecision x s) := by
  have hend (u : State) (hu : u.le = s.le) : Path u (endTransaction x (.reply .busy 0 false 0) u) :=
    endTransaction_path (x := x) (by rw [hu]; exact h) rfl rfl rfl (busy_fits _)
  unfold busyDecision
  cases htarget : x.target with
  | none =>
    simp only
    split
    · rename_i hgo
      simp only [Bool.and_eq_true, decide_eq_true_eq] at hgo
      exact defer_path h hgo.2
    · exact hend s rfl
  | some i =>
    simp only [busyReport_le]
    refine (busyReport_path s i).trans ?_
    have hle := busyReport_le s i
    split
    · rename_i hgo
      simp only [Bool.and_eq_true, decide_eq_true_eq] at hgo
      exact defer_path (by rw [hle]; exact h) (by rw [hle]; exact hgo.2)
    · exact hend _ hle

/-- An attempt starts from a state that holds the transaction. -/
theorem startAttempt_path (h : s.le.current = some x) (hholds : s.le.state.holds = true)
    (horigin : y.origin = x.origin) (hpayload : y.payload = x.payload)
    (hreserved : y.reservation = x.reservation) : Path s (startAttempt y s) := by
  obtain ⟨l, e, a, heq, he, -, hleft⟩ := startAttempt_change y s
  let u : State := { s with le := { s.le with current := some y } }
  have hu : Path s u := (Move.retouch x y h horigin hpayload hreserved).path ⟨rfl, rfl, rfl, rfl, rfl, id⟩
  have hphase := (Move.phase (s := u) e hholds he).path ⟨rfl, rfl, rfl, rfl, rfl, id⟩
  rw [heq]
  exact (hu.trans hphase).trans ((path_attempt _ a).trans (path_li _ l hleft))

theorem nextAttempt_path (h : s.le.current = some x) (hholds : s.le.state.holds = true) :
    Path s (nextAttempt x s) := by
  unfold nextAttempt
  split
  · exact endTransaction_path h rfl rfl rfl (roundResult_fits _ _)
  · exact startAttempt_path h hholds rfl rfl rfl

/-- The retry decision is a chain of moves. -/
theorem retryDecision_path (h : s.le.current = some x) (hholds : s.le.state.holds = true)
    (horigin : y.origin = x.origin) (hpayload : y.payload = x.payload)
    (hreserved : y.reservation = x.reservation) : Path s (retryDecision y s) := by
  rcases retryDecision_cases y s with hend | ⟨hcancel, hleft, -⟩
  · rw [hend]
    exact endTransaction_path h horigin hpayload hreserved (roundResult_fits _ _)
  · let u : State := { s with le := { s.le with current := some y } }
    have hu : Path s u :=
      (Move.retouch x y h horigin hpayload hreserved).path ⟨rfl, rfl, rfl, rfl, rfl, id⟩
    have hphase := (Move.phase (s := u) .holding hholds rfl).path ⟨rfl, rfl, rfl, rfl, rfl, id⟩
    have hhold : Path s (s.holding y) := (hu.trans hphase).trans (path_attempt _ Attempt.blank)
    rw [retryDecision_holds s y hcancel hleft]
    split_ifs
    · exact hhold.trans (nextAttempt_path rfl rfl)
    · exact hhold

/-- The end of an attempt is a chain of moves. -/
theorem attemptEnds_path {r : Result} (h : s.le.current = some x) (hholds : s.le.state.holds = true)
    (hr : r.Fits x.reservation.length) : Path s (attemptEnds x r s) := by
  unfold attemptEnds
  split
  · exact retryDecision_path h hholds rfl rfl rfl
  · exact retryDecision_path h hholds rfl rfl rfl
  · exact retryDecision_path h hholds rfl rfl rfl
  · exact retryDecision_path h hholds rfl rfl rfl
  · exact busyDecision_path h
  all_goals exact endTransaction_path h rfl rfl rfl hr

theorem finishAttempt_path {r : Result} (hholds : s.le.state.holds = true)
    (hr : ∀ x, s.le.current = some x → r.Fits x.reservation.length) :
    Path s (finishAttempt r s) := by
  unfold finishAttempt
  split
  · rename_i x hx
    exact attemptEnds_path hx hholds (hr x hx)
  · exact .refl s

/-- A character of a reply goes to its place, or ends the attempt (R27 to R29). -/
theorem takeReplyChar_path (c : LineChar) (h : s.le.current = some x)
    (hholds : s.le.state.holds = true) : Path s (s.takeReplyChar x c) := by
  have hend (a : Attempt) (r : Result) (hr : r.Fits x.reservation.length) :
      Path s (finishAttempt r { s with le := { s.le with attempt := a } }) := by
    refine (path_attempt s a).trans (finishAttempt_path (by exact hholds) fun x' hx' => ?_)
    obtain rfl : x = x' := Option.some.inj (h.symm.trans hx')
    exact hr
  unfold State.takeReplyChar
  simp only
  split
  · exact path_attempt s _
  split
  · split
    · exact hend _ _ trivial
    · exact path_attempt s _
  split
  · refine (path_attempt s _).trans (.aside ⟨rfl, rfl, rfl, rfl, rfl, rfl, rfl, rfl, rfl, rfl, rfl⟩
      ⟨fun hm => Memory.storeAt_wf _ _ _ _ hm, id, id, id, id, fun hs ha => ⟨hs, ha⟩⟩
      ⟨rfl, rfl, rfl, rfl, rfl, id⟩)
  split
  · exact path_attempt s _
  · exact hend _ _ (judge_fits _ x _)
end

end Sys2Proof.Machine

/-! PROOF. The reports and the expiries (Chapters 1 and 3), the sample clock and the tick as effects: a chain
of moves after which nothing is left undone that was not before. -/

namespace Sys2Proof.Machine

/-! ## Effects -/

/-- What an event of time or a report does: a chain of moves that leaves the frame, and after which
nothing is left undone that was not before. -/
structure Effect (s t : State) : Prop where
  path : Path s t
  settled : s.Settled → t.Settled

theorem Effect.refl (s : State) : Effect s s := ⟨.refl s, id⟩

theorem Effect.trans {s t u : State} (h : Effect s t) (k : Effect t u) : Effect s u :=
  ⟨h.path.trans k.path, k.settled ∘ h.settled⟩

/-- What ends with a settling leaves nothing undone. -/
theorem Path.settle {s t : State} (h : Path s t) : Effect s t.settle :=
  ⟨h.trans (settle_path t), fun _ => settle_settled t⟩

theorem Path.effect {s t : State} (h : Path s t) (hsame : SameChoice s t) : Effect s t :=
  ⟨h, hsame.settled⟩

/-- Where the engine is left busy, only the offer matters. -/
theorem Path.effect_of_busy {s t : State} (h : Path s t) (hcu : t.cu = s.cu)
    (hstates : ∀ i, (t.station i).state = (s.station i).state) (hbusy : t.le.state ≠ .idle) :
    Effect s t := by
  refine ⟨h, fun hs => State.OfferFormed.settled ?_ (arbiterActs_of_state hbusy)⟩
  rw [State.OfferFormed, hcu, offer_congr hcu hstates]
  exact hs.1

theorem SameChoice.of_fields {s t : State} (hcu : t.cu = s.cu) (hst : t.st = s.st)
    (hle : t.le.state = s.le.state ∧ t.le.stopMark = s.le.stopMark ∧
      t.le.deferred = s.le.deferred ∧ t.le.expired = s.le.expired ∧ t.le.params = s.le.params)
    (hmonitor : t.li.monitor = .quiet → s.li.monitor = .quiet) (hru : t.ru = s.ru)
    (hrun : t.pollRun = s.pollRun) (hfree : t.fs.free = s.fs.free) : SameChoice s t := by
  obtain ⟨hstate, hmark, hdeferred, hexpired, hparams⟩ := hle
  have hstation (i : Fin 32) : t.station i = s.station i := by rw [State.station, hst]; rfl
  exact ⟨by rw [hcu], offer_congr hcu fun i => by rw [hstation], hstate, hmark, hmonitor, hdeferred,
    hexpired, by rw [hru], by rw [hru], by rw [hparams], hrun, hfree, fun i => by rw [hstation],
    fun i => by rw [hstation]⟩

section
variable (s : State)

/-- The Line Interface changes, but for the divider's count and a monitor that stays ACTIVE. -/
theorem effect_li (l : LineInterface) (h : s.li.KeepsDividers l)
    (hmonitor : l.monitor = .quiet → s.li.monitor = .quiet) : Effect s { s with li := l } :=
  (path_li s l h).effect (.of_fields rfl rfl ⟨rfl, rfl, rfl, rfl, rfl⟩ hmonitor rfl rfl rfl)

/-- The Line Interface changes first, and the rest follows. -/
theorem Effect.after_li {s t : State} {l : LineInterface} (h : Effect { s with li := l } t)
    (hleft : s.li.KeepsDividers l) (hmonitor : l.monitor = .quiet → s.li.monitor = .quiet) :
    Effect s t := (effect_li s l hleft hmonitor).trans h

theorem effect_attempt (a : Attempt) : Effect s { s with le := { s.le with attempt := a } } :=
  (path_attempt s a).effect (.of_fields rfl rfl ⟨rfl, rfl, rfl, rfl, rfl⟩ id rfl rfl rfl)

theorem effect_raise {e : Event} (he : e.Occurs) : Effect s (s.raise e) :=
  (path_raise s he).effect (.of_fields rfl rfl ⟨rfl, rfl, rfl, rfl, rfl⟩ id rfl rfl rfl)

theorem effect_raiseIf (c : Bool) {e : Event} (he : e.Occurs) : Effect s (s.raiseIf c e) := by
  cases c with
  | false => exact .refl s
  | true => exact effect_raise s he

/-- A free value is asked. -/
theorem effect_choose : Effect s s.choose.2 :=
  (Path.aside (s := s) (t := { s with choice := s.choice + 1 })
    ⟨rfl, rfl, rfl, rfl, rfl, rfl, rfl, rfl, rfl, rfl, rfl⟩
    (.of_same rfl rfl rfl rfl rfl rfl) ⟨rfl, rfl, rfl, rfl, rfl, id⟩).effect
    (.of_fields rfl rfl ⟨rfl, rfl, rfl, rfl, rfl⟩ id rfl rfl rfl)

/-! ## The Line Interface's own changes -/

theorem beginChar_frame (l : LineInterface) (c : TxChar) :
    l.KeepsDividers (l.beginChar c) ∧ (l.beginChar c).monitor = l.monitor :=
  ⟨⟨rfl, fun _ => rfl⟩, rfl⟩

theorem endStopBit_frame (l : LineInterface) (framing : Bool) :
    l.KeepsDividers (l.endStopBit framing) ∧ (l.endStopBit framing).monitor = l.monitor := by
  unfold LineInterface.endStopBit
  split
  · exact beginChar_frame l _
  · exact ⟨⟨rfl, id⟩, rfl⟩

theorem pastLastStopBit_frame (l : LineInterface) :
    l.KeepsDividers l.pastLastStopBit ∧ l.pastLastStopBit.monitor = l.monitor := by
  unfold LineInterface.pastLastStopBit
  split
  · exact endStopBit_frame l _
  · exact ⟨⟨rfl, id⟩, rfl⟩

/-! ## Reports of the receiver -/

theorem effect_startTaken : Effect s s.startTaken := by
  unfold State.startTaken
  cases s.le.state with
  | sending | awaiting | receiving => exact effect_attempt s _
  | stopped | idle | holding | turnaround | breaking => exact .refl s

theorem effect_startReport (h : Shift) : Effect s (startReport h s) := by
  have hli := effect_li s { s.li with rx := .assembling 9 h (!s.le.state.listens) } ⟨rfl, id⟩ id
  unfold startReport
  simp only
  split
  · exact hli.trans (effect_raiseIf _ _ rfl)
  · exact hli.trans (effect_startTaken _)

theorem expireWindow_path (h : s.le.state = .awaiting) : Path s (expireWindow s) := by
  unfold expireWindow
  simp only
  split
  · exact path_attempt s _
  · refine finishAttempt_path (by rw [h]; rfl) fun _ _ => ?_
    split <;> trivial

theorem strayChar_path (h : s.le.state = .awaiting) : Path s (strayChar s) := by
  unfold strayChar
  simp only
  have hmark := path_attempt s { s.le.attempt with stray := true, pending := false }
  split
  · exact hmark.trans (expireWindow_path _ h)
  · exact hmark

theorem beginReceiving_path (c : LineChar) (h : s.le.state = .awaiting) :
    Path s (s.beginReceiving c) :=
  ((Move.phase .receiving (by rw [h]; rfl) rfl).path ⟨rfl, rfl, rfl, rfl, rfl, id⟩).trans
    (path_attempt _ _)

theorem charTaken_path (c : LineChar) : Path s (charTaken c s) := by
  unfold charTaken
  cases h : s.le.state with
  | awaiting =>
    simp only
    split
    · exact beginReceiving_path s c h
    · exact strayChar_path s h
  | receiving =>
    have hholds : s.le.state.holds = true := by rw [h]; rfl
    simp only
    split
    · exact (path_raise s (e := .lineContention) rfl).trans
        (finishAttempt_path hholds fun _ _ => trivial)
    · split
      · exact takeReplyChar_path c (by assumption) hholds
      · exact .refl s
  | sending => exact path_attempt s _
  | stopped | idle | holding | turnaround | breaking => exact .refl s

theorem effect_characterReport (c : LineChar) (foreign : Bool) (edge : Option (Nat × Shift)) :
    Effect s (characterReport c foreign edge s) := by
  have hli := path_li s { s.li with rx := c.nextRx edge, oldRate := none } ⟨rfl, fun _ => rfl⟩
  unfold characterReport
  simp only
  split
  · exact hli.settle
  · exact (hli.trans (charTaken_path _ c)).settle

theorem effect_breakReport : Effect s (breakReport s) := by
  have hli := effect_li s { s.li with rx := .heldLow 345 [] false } ⟨rfl, id⟩ id
  have hseen := hli.trans (effect_raise _ (e := .breakSeen) rfl)
  unfold breakReport
  simp only
  cases h : s.le.state with
  | awaiting | receiving =>
    exact (hseen.path.trans (finishAttempt_path (r := .corrupt .framing)
      (by show s.le.state.holds = true; rw [h]; rfl) fun _ _ => trivial)).settle
  | stopped | idle | holding | turnaround | sending | breaking => exact hseen

theorem effect_heldLowEnd : Effect s (heldLowEnd s) := effect_li s _ ⟨rfl, id⟩ id

/-! ## Reports of the transmitter -/

theorem supplyNext_path (x : Transaction) : Path s (s.supplyNext x) := by
  unfold State.supplyNext
  simp only
  split
  · exact .refl s
  · exact (path_attempt s _).trans (path_li _ _ ⟨rfl, id⟩)

theorem echoTaken_path (c : TxChar) (e : LineChar) : Path s (echoTaken c e s) := by
  unfold echoTaken
  split
  · rename_i x hstate hx
    have hholds : s.le.state.holds = true := by rw [hstate]; rfl
    split
    · unfold echoAgreed
      split
      · exact supplyNext_path s x
      · split
        · exact finishAttempt_path hholds fun _ _ => trivial
        · exact .refl s
    · exact (path_raise s (e := .lineContention) rfl).trans
        (finishAttempt_path hholds fun _ _ => trivial)
  · exact .refl s

theorem effect_echoReport (c : TxChar) (e : LineChar) : Effect s (echoReport c e s) :=
  ((path_li s { s.li with tx := .sending c 169 (some e.framing) } ⟨rfl, id⟩).trans
    (echoTaken_path _ c e)).settle

theorem effect_openWindow : Effect s s.openWindow := by
  unfold State.openWindow
  split
  · rename_i h
    exact (((Move.phase .awaiting (by rw [h]; rfl) rfl).path ⟨rfl, rfl, rfl, rfl, rfl, id⟩).trans
      (path_attempt _ _)).effect_of_busy rfl (fun _ => rfl) (by simp)
  · exact .refl s

theorem effect_releasedReport : Effect s (releasedReport s) := by
  unfold releasedReport
  refine .trans (effect_li s _ ?_ ?_) (effect_openWindow _)
  · split
    · exact ⟨rfl, fun _ => rfl⟩
    · exact ⟨rfl, id⟩
  · split
    · intro h; cases h
    · exact id

/-- Every entry's toggle is 0, and nothing else changes (R34). -/
theorem clearToggles_eq : ∃ v : Vector Station 32,
    s.clearToggles = { s with st := { s.st with entries := v } } ∧
      ∀ i, v.get i = { s.station i with toggle := false } := by
  unfold State.clearToggles State.mapStations
  exact ⟨_, rfl, fun i => vector_get_ofFn _ i⟩

/-- Setting the toggles leaves what the rules judge, the states and the blocks. -/
theorem effect_clearToggles : Effect s s.clearToggles := by
  obtain ⟨v, heq, hv⟩ := clearToggles_eq s
  rw [heq]
  let t : State := { s with st := { s.st with entries := v } }
  have hstation (i : Fin 32) : t.station i = { s.station i with toggle := false } := hv i
  have hstates (i : Fin 32) : (t.station i).state = (s.station i).state := by rw [hstation]
  have hkept : FieldsKept s t := by
    refine ⟨id, id, id, id, id, stations_kept fun i => ?_⟩
    rw [hstation]
    refine .of_unjudged rfl rfl rfl rfl rfl rfl fun h => ?_
    rw [h]
    rfl
  exact (Path.aside (s := s) (t := t) ⟨rfl, rfl, rfl, rfl, rfl, rfl, rfl, rfl, rfl, rfl, rfl⟩ hkept
    ⟨rfl, rfl, rfl, rfl, rfl, id⟩).effect
    ⟨rfl, offer_congr rfl hstates, rfl, rfl, id, rfl, rfl, rfl, rfl, rfl, rfl, rfl, hstates,
      fun i => by rw [hstation]⟩

theorem effect_breakLowEnd : Effect s (breakLowEnd s) :=
  (effect_li s { s.li with tx := .breakHigh 0 } ⟨rfl, id⟩ id).trans (effect_clearToggles _)

/-- Entering STOPPED from a state that holds no transaction. -/
theorem enterStopped_path (h : s.le.state.holds = false ∨ s.le.current = none) : Path s s.enterStopped :=
  ((Move.rest .stopped false h rfl fun _ hm => by cases hm).path ⟨rfl, rfl, rfl, rfl, rfl, id⟩).trans
    (path_raise (e := .lineStopped) _ rfl)

theorem leaveBreaking_path : Path s s.leaveBreaking := by
  unfold State.leaveBreaking
  split
  · rename_i h
    split
    · exact enterStopped_path s (.inl (by rw [h]; rfl))
    · rename_i hmark
      refine (Move.rest .idle s.le.stopMark (.inl (by rw [h]; rfl)) rfl fun _ hm => ?_).path
        ⟨rfl, rfl, rfl, rfl, rfl, id⟩
      simp [hm] at hmark
  · exact .refl s

theorem effect_breakDoneReport : Effect s (breakDoneReport s) := by
  unfold breakDoneReport
  split
  · exact effect_li s _ ⟨rfl, fun _ => rfl⟩ fun h => by cases h
  · exact ((path_li s { s.li with tx := .released, rx := .heldLow 16 [] false } ⟨rfl, id⟩).trans
      (leaveBreaking_path _)).settle

/-! ## The quiet monitor and the expiries -/

theorem effect_quietReport : Effect s (quietReport s) := by
  have hli := path_li s { s.li with monitor := .quiet } ⟨rfl, id⟩
  unfold quietReport
  simp only
  split
  · rename_i x hstate hx
    exact (hli.trans (nextAttempt_path hx (by rw [hstate]; rfl))).settle
  · exact hli.settle

theorem effect_windowExpiry (h : s.le.state = .awaiting) : Effect s (windowExpiry s) :=
  (expireWindow_path s h).settle

theorem effect_gapExpiry (h : s.le.state = .receiving) : Effect s (gapExpiry s) :=
  (finishAttempt_path (r := .corrupt .gap) (by rw [h]; rfl) fun _ _ => trivial).settle

theorem effect_goActive : Effect s { s with li := s.li.goActive } :=
  effect_li s s.li.goActive ⟨rfl, id⟩ fun h => by cases h

/-! ## The start bit -/

theorem effect_latchTick : Effect s s.latchTick := by
  unfold State.latchTick
  split
  · split
    · exact effect_attempt s _
    · exact .refl s
  · exact .refl s

theorem effect_firstStart (c : TxChar) : Effect s (firstStart c s) := by
  have hli := effect_li s (s.li.beginChar c) (beginChar_frame s.li c).1 id
  unfold firstStart
  simp only
  split
  · rename_i h
    refine hli.trans (.trans ?_ (effect_latchTick _))
    exact ((Move.phase .sending (by rw [h]; rfl) rfl).path ⟨rfl, rfl, rfl, rfl, rfl, id⟩).effect_of_busy
      rfl (fun _ => rfl) (by simp)
  · exact hli

theorem effect_startIfElapsed : Effect s s.startIfElapsed := by
  rcases startIfElapsed_cases s with h | ⟨c, -, -, -, h⟩
  · rw [h]; exact .refl s
  · rw [h]; exact effect_firstStart s c

/-! ## A sample (R2 to R14) -/

theorem effect_sendingSample (c : TxChar) (n : Nat) (echoed : Option Bool) (level : Bool) :
    Effect s (sendingSample c n echoed level s) := by
  unfold sendingSample
  simp only
  split
  · obtain ⟨hleft, hmonitor⟩ := endStopBit_frame s.li (echoed.getD false)
    exact effect_li s _ hleft fun h => hmonitor ▸ h
  · have hli := effect_li s { s.li with
      tx := .sending c n echoed, rx := .echoing (s.li.rx.echoShift.sample n level).1 } ⟨rfl, id⟩ id
    split
    · exact hli.trans (effect_echoReport _ c _)
    · exact hli

theorem effect_txSample (level : Bool) : Effect s (txSample level s) := by
  unfold txSample
  split
  · exact .refl s
  · exact (effect_startIfElapsed _).after_li ⟨rfl, id⟩ id
  · exact effect_sendingSample s _ _ _ level
  · split
    · exact effect_releasedReport s
    · exact effect_li s _ ⟨rfl, id⟩ id
  · split
    · exact effect_breakLowEnd s
    · exact effect_li s _ ⟨rfl, id⟩ id
  · split
    · exact effect_breakDoneReport s
    · exact effect_li s _ ⟨rfl, id⟩ id

theorem effect_candidateSample (n : Nat) (h : Shift) (before level : Bool) :
    Effect s (candidateSample n h before level s) := by
  unfold candidateSample
  split
  · exact effect_li s _ ⟨rfl, id⟩ id
  · exact effect_li s _ ⟨rfl, id⟩ id
  · exact effect_startReport s _

theorem effect_assemblingSample (n : Nat) (h : Shift) (foreign before level : Bool) :
    Effect s (assemblingSample n h foreign before level s) := by
  unfold assemblingSample
  simp only
  split
  · exact effect_characterReport s _ foreign _
  · exact effect_li s _ ⟨rfl, id⟩ id

theorem effect_heldLowSample (n : Nat) (votes : List Bool) (armed level : Bool) :
    Effect s (heldLowSample n votes armed level s) := by
  unfold heldLowSample
  simp only
  split
  · split
    · exact effect_heldLowEnd s
    · split
      · exact effect_breakReport s
      · exact effect_li s _ ⟨rfl, id⟩ id
  · exact effect_li s _ ⟨rfl, id⟩ id

theorem effect_rxSample (level : Bool) : Effect s (rxSample level s) := by
  have hli := effect_li s { s.li with lastSample := level } ⟨rfl, id⟩ id
  unfold rxSample
  simp only
  split
  · exact hli.trans (effect_li _ _ ⟨rfl, id⟩ id)
  · exact hli.trans (effect_candidateSample _ _ _ _ level)
  · exact hli.trans (effect_assemblingSample _ _ _ _ _ level)
  · split
    · exact hli
    · exact hli.trans (effect_heldLowSample _ _ _ _ level)
  · exact hli

theorem effect_expireLineTimers : Effect s (expireLineTimers s) := by
  unfold expireLineTimers
  split
  · split
    · exact effect_windowExpiry s (by assumption)
    · exact .refl s
  · split
    · exact effect_gapExpiry s (by assumption)
    · exact .refl s
  all_goals exact .refl s

theorem effect_receiveAndExpire (level : Bool) : Effect s (receiveAndExpire level s) := by
  unfold receiveAndExpire
  simp only
  split
  · split
    · exact ((effect_choose s).trans (effect_expireLineTimers _)).trans (effect_rxSample _ level)
    · exact ((effect_choose s).trans (effect_rxSample _ level)).trans (effect_expireLineTimers _)
  · exact (effect_rxSample s level).trans (effect_expireLineTimers _)

theorem effect_lowBeforeExpiry (level : Bool) : Effect s (lowBeforeExpiry level s) := by
  unfold lowBeforeExpiry
  simp only
  split
  · split
    · exact (effect_choose s).trans (effect_goActive _)
    · exact effect_choose s
  · exact .refl s

theorem effect_quietSample (level driven : Bool) : Effect s (quietSample level driven s) := by
  unfold quietSample
  simp only
  split
  · exact effect_goActive s
  · have hcount := effect_li s { s.li with quietTimer := s.li.quietTimer + 1 } ⟨rfl, id⟩ id
    split
    · exact hcount.trans (effect_quietReport _)
    · exact hcount

theorem effect_countLineTimers : Effect s s.countLineTimers := effect_attempt s _

theorem effect_txThenRx (level : Bool) : Effect s (txThenRx level s) := by
  unfold txThenRx
  simp only
  split
  · exact (effect_txSample s level).trans ((effect_expireLineTimers _).after_li ⟨rfl, id⟩ id)
  · exact (effect_txSample s level).trans (effect_receiveAndExpire _ level)

theorem effect_lineSample (level : Bool) : Effect s (lineSample level s) := by
  unfold lineSample
  simp only
  split
  · split
    · exact ((effect_choose s).trans (effect_receiveAndExpire _ level)).trans (effect_txSample _ level)
    · exact (effect_choose s).trans (effect_txThenRx _ level)
  · exact effect_txThenRx s level

theorem effect_sampleWithRx (level : Bool) : Effect s (sampleWithRx level s) :=
  (((effect_countLineTimers s).trans (effect_lowBeforeExpiry _ level)).trans
    (effect_lineSample _ level)).trans (effect_quietSample _ level _)

theorem effect_sampleWithoutRx (level : Bool) : Effect s (sampleWithoutRx level s) :=
  ((((effect_countLineTimers s).trans (effect_lowBeforeExpiry _ level)).trans
    (effect_txSample _ level)).trans (effect_expireLineTimers _)).trans (effect_quietSample _ level _)

theorem effect_oldRateSample (level : Bool) {r : OldRate} (hr : s.li.oldRate = some r) :
    Effect s (oldRateSample level r s) := by
  have hdividers (q : OldRate) : s.li.KeepsDividers { s.li with oldRate := some q } :=
    ⟨rfl, fun h => by rw [hr] at h; cases h⟩
  unfold oldRateSample
  split
  · exact (effect_rxSample _ level).after_li (hdividers _) id
  · exact effect_li s _ (hdividers _) id

/-- A period of the sample-rate divider: its count, and then the effect of what it brings. -/
theorem effect_samplePeriod :
    Effect
      { s with li := { s.li with
        sampleLeft := if s.li.sampleLeft = 0 then s.le.params.divisor.toNat else s.li.sampleLeft - 1 } }
      (samplePeriod s) := by
  have hold (t : State) (level : Bool) : Effect t (match t.li.oldRate with
      | some r => oldRateSample level r t
      | none => t) := by
    cases h : t.li.oldRate with
    | none => exact .refl t
    | some r => exact effect_oldRateSample t level h
  unfold samplePeriod
  simp only
  refine .trans ?_ (hold _ _)
  split
  · split
    · exact effect_sampleWithoutRx _ _
    · exact effect_sampleWithRx _ _
  · exact .refl _

/-! ## The tick (R52, R102, R163) -/

theorem effect_holdoffTick : Effect s (holdoffTick s) :=
  (Move.countHoldoffs.path ⟨rfl, rfl, rfl, rfl, rfl, id⟩).settle

theorem expirePeriod_change : CycleChange s s.expirePeriod := by
  have hload := loadTimer_change s
  unfold State.expirePeriod
  simp only
  split
  · exact hload
  · exact hload.trans (cycleStart_change _)
  · exact (hload.trans (.of_cu _ _ rfl rfl)).trans (.of_raise (e := .cycleOverrun) _ rfl)
  · exact (hload.trans (.of_cu _ _ rfl rfl)).trans (.of_raise (e := .cycleOverrun) _ rfl)

theorem tickCycle_change : CycleChange s s.tickCycle := by
  unfold State.tickCycle
  split
  · split
    · exact expirePeriod_change s
    · exact .of_cu s _ rfl rfl
  · split
    · exact cycleStartLoading_change s
    · exact .refl s

theorem effect_cycleTick : Effect s (cycleTick s) := (tickCycle_change s).path.settle

/-- A tick: the counter, and then the effect of what it brings. -/
theorem effect_tick :
    Effect { s with tb := { s.tb with prescaler := 0, counter := s.tb.counter + 1 } } (tick s) := by
  unfold tick
  simp only
  split
  · split
    · exact ((effect_choose _).trans (effect_holdoffTick _)).trans (effect_cycleTick _)
    · exact ((effect_choose _).trans (effect_cycleTick _)).trans (effect_holdoffTick _)
  · exact (effect_cycleTick _).trans (effect_holdoffTick _)

/-! ## The rows of the line (log 2) -/

theorem effect_quietEvent : Effect s (quietEvent s) := by
  unfold quietEvent
  split
  · exact (effect_quietReport _).after_li ⟨rfl, id⟩ id
  · exact .refl s

theorem effect_activeEvent : Effect s (activeEvent s) := by
  unfold activeEvent
  split
  · exact effect_goActive s
  · exact .refl s

theorem effect_windowEvent : Effect s (windowEvent s) := by
  unfold windowEvent
  split
  · rename_i h
    exact effect_windowExpiry s h.1
  · exact .refl s

theorem effect_gapEvent : Effect s (gapEvent s) := by
  unfold gapEvent
  split
  · rename_i h
    exact effect_gapExpiry s h.1
  · exact .refl s

theorem effect_startEvent (noise : Bool) : Effect s (startEvent noise s) := by
  unfold startEvent
  simp only
  split
  · exact (effect_startReport _ _).after_li (pastLastStopBit_frame s.li).1 fun h => by cases h
  all_goals exact .refl s

theorem effect_characterEvent (c : LineChar) : Effect s (characterEvent c s) := by
  unfold characterEvent
  split
  · exact (effect_characterReport _ _ _ _).after_li ⟨rfl, id⟩ id
  all_goals exact .refl s

theorem effect_breakEvent : Effect s (breakEvent s) := by
  unfold breakEvent
  split
  · exact (effect_breakReport _).after_li ⟨rfl, id⟩ id
  all_goals exact .refl s

theorem effect_firstStartEvent : Effect s (firstStartEvent s) := by
  unfold firstStartEvent
  split
  · exact effect_firstStart s _
  · exact .refl s

theorem effect_echoEvent (e : LineChar) : Effect s (echoEvent e s) := by
  unfold echoEvent
  split
  · exact effect_echoReport s _ e
  · exact (effect_echoReport _ _ e).after_li (beginChar_frame s.li _).1 id
  · exact .refl s

/-- Past the last stop bit nothing changes but the Line Interface's work. -/
theorem effect_pastLastStopBit : Effect s { s with li := s.li.pastLastStopBit } := by
  obtain ⟨hleft, hmonitor⟩ := pastLastStopBit_frame s.li
  exact effect_li s _ hleft fun h => hmonitor ▸ h

theorem effect_releasedEvent : Effect s (releasedEvent s) := by
  unfold releasedEvent
  simp only
  split
  · exact (effect_pastLastStopBit s).trans (effect_releasedReport _)
  all_goals exact .refl s

theorem effect_breakLowEvent : Effect s (breakLowEvent s) := by
  unfold breakLowEvent
  split
  · exact effect_breakLowEnd s
  all_goals exact .refl s

theorem effect_breakDoneEvent : Effect s (breakDoneEvent s) := by
  unfold breakDoneEvent
  split
  · exact effect_breakDoneReport s
  all_goals exact .refl s

theorem effect_heldLowEvent : Effect s (heldLowEvent s) := by
  unfold heldLowEvent
  simp only
  split
  · split
    · exact .refl s
    · exact (effect_pastLastStopBit s).trans ((effect_heldLowEnd _).after_li ⟨rfl, id⟩ id)
  all_goals exact .refl s

/-! ## The rows that count in ticks -/

theorem effect_holdoffEvent (place : Fin 4) : Effect s (holdoffEvent place s) := by
  unfold holdoffEvent
  split
  · rename_i d hd
    split
    · exact .refl s
    · rename_i hholdoff
      exact ((Move.expireEntry d (List.mem_of_getElem? hd) hholdoff).path
        ⟨rfl, rfl, rfl, rfl, rfl, id⟩).settle
  · exact .refl s

theorem effect_periodEvent : Effect s (periodEvent s) := by
  unfold periodEvent
  split
  · exact (expirePeriod_change s).path.settle
  · exact .refl s

theorem effect_nextTickEvent : Effect s (nextTickEvent s) := by
  unfold nextTickEvent
  split
  · exact (cycleStartLoading_change s).path.settle
  · exact .refl s
end

end Sys2Proof.Machine

/-! PROOF. The commands as lawful changes: a chain of moves after which nothing is left undone that was not
before, and which leaves the queue of commands (R179). -/

namespace Sys2Proof.Machine

/-- What a command does. -/
structure Lawful (s t : State) : Prop where
  moves : Moves s t
  settled : s.Settled → t.Settled
  pending : t.pending = s.pending

theorem Lawful.refl (s : State) : Lawful s s := ⟨.refl s, id, rfl⟩

theorem Lawful.trans {s t u : State} (h : Lawful s t) (k : Lawful t u) : Lawful s u :=
  ⟨h.moves.trans k.moves, k.settled ∘ h.settled, k.pending.trans h.pending⟩

theorem Effect.lawful {s t : State} (h : Effect s t) : Lawful s t :=
  ⟨h.path.moves, h.settled, h.path.frame.pending⟩

/-- What no account speaks of changes, and the choice does not depend on it. -/
theorem Lawful.aside {s t : State} (hsame : SameAccounts s t) (hkept : FieldsKept s t)
    (hchoice : SameChoice s t) (hpending : t.pending = s.pending) : Lawful s t :=
  ⟨(Move.aside hsame hkept).moves, hchoice.settled, hpending⟩

/-- A move that leaves what the choice depends on. -/
theorem Move.lawful {s t : State} (h : Move s t) (hchoice : SameChoice s t)
    (hpending : t.pending = s.pending) : Lawful s t := ⟨h.moves, hchoice.settled, hpending⟩

section
variable (s : State)

/-- The registers of the bus, the pins, the time base, the divider's count, the enables and the routes may
take any value. -/
theorem lawful_bi (b : BusInterface) : Lawful s { s with bi := b } :=
  .aside ⟨rfl, rfl, rfl, rfl, rfl, rfl, rfl, rfl, rfl, rfl, rfl⟩ (.of_same rfl rfl rfl rfl rfl rfl)
    (.of_fields rfl rfl ⟨rfl, rfl, rfl, rfl, rfl⟩ id rfl rfl rfl) rfl

theorem lawful_pins (p : Pins) : Lawful s { s with pins := p } :=
  .aside ⟨rfl, rfl, rfl, rfl, rfl, rfl, rfl, rfl, rfl, rfl, rfl⟩ (.of_same rfl rfl rfl rfl rfl rfl)
    (.of_fields rfl rfl ⟨rfl, rfl, rfl, rfl, rfl⟩ id rfl rfl rfl) rfl

theorem lawful_tb (b : TimeBase) : Lawful s { s with tb := b } :=
  .aside ⟨rfl, rfl, rfl, rfl, rfl, rfl, rfl, rfl, rfl, rfl, rfl⟩ (.of_same rfl rfl rfl rfl rfl rfl)
    (.of_fields rfl rfl ⟨rfl, rfl, rfl, rfl, rfl⟩ id rfl rfl rfl) rfl

theorem lawful_lineIn (l : List LineRun) : Lawful s { s with lineIn := l } :=
  .aside ⟨rfl, rfl, rfl, rfl, rfl, rfl, rfl, rfl, rfl, rfl, rfl⟩ (.of_same rfl rfl rfl rfl rfl rfl)
    (.of_fields rfl rfl ⟨rfl, rfl, rfl, rfl, rfl⟩ id rfl rfl rfl) rfl

theorem lawful_sampleLeft (n : Nat) : Lawful s { s with li := { s.li with sampleLeft := n } } :=
  .aside ⟨rfl, rfl, rfl, rfl, rfl, rfl, rfl, rfl, rfl, rfl, rfl⟩ (.of_same rfl rfl rfl rfl rfl rfl)
    (.of_fields rfl rfl ⟨rfl, rfl, rfl, rfl, rfl⟩ id rfl rfl rfl) rfl

theorem lawful_eu (u : EventUnit) (h : s.eu.latches &&& ~~~occurrenceMask = 0 →
    u.latches &&& ~~~occurrenceMask = 0) : Lawful s { s with eu := u } :=
  .aside ⟨rfl, rfl, rfl, rfl, rfl, rfl, rfl, rfl, rfl, rfl, rfl⟩
    ⟨id, h, id, id, id, fun hs ha => ⟨hs, ha⟩⟩
    (.of_fields rfl rfl ⟨rfl, rfl, rfl, rfl, rfl⟩ id rfl rfl rfl) rfl

/-- The staging area may change, within its bound. -/
theorem lawful_staging (g : Staging) (h : s.StagingFits → g.payload.length ≤ 96) :
    Lawful s { s with ru := { s.ru with staging := g } } :=
  .aside ⟨rfl, rfl, rfl, rfl, rfl, rfl, rfl, rfl, rfl, rfl, rfl⟩
    ⟨id, id, id, id, h, fun hs ha => ⟨hs, ha⟩⟩
    ⟨rfl, rfl, rfl, rfl, id, rfl, rfl, rfl, rfl, rfl, rfl, rfl, fun _ => rfl, fun _ => rfl⟩ rfl

theorem lawful_commandError : Lawful s (s.raise .commandError) := (effect_raise s (e := .commandError) rfl).lawful

theorem lawful_answer (code : Byte) (r : ResultCode) : Lawful s (s.answer code r) := by
  unfold State.answer
  simp only
  split
  · exact lawful_bi s _
  · exact (lawful_bi s _).trans (lawful_commandError _)

/-! ## Accesses -/

theorem lawful_hostWrite {f : State → State} (h : Lawful s (f s)) : Lawful s (hostWrite f s) := by
  unfold hostWrite
  split
  · exact .refl s
  · split
    · exact lawful_pins s _
    · exact h

theorem lawful_hostRead {f : State → Word × State} (h : Lawful s (f s).2) :
    Lawful s (hostRead f s) := by
  unfold hostRead
  split
  · exact lawful_pins s _
  · split
    · exact lawful_pins s _
    · exact h.trans (lawful_pins _ _)

/-- A command that is lawful as an operation is lawful as an access. -/
theorem lawful_command (code : Byte) {op : CommandOp} (h : Lawful s (op s).1) :
    Lawful s (hostCommand code op s) := lawful_hostWrite s (h.trans (lawful_answer _ code _))

theorem lawful_stationCommand {op : Fin 32 → CommandOp} (h : ∀ i, Lawful s (op i s).1)
    (operand : Byte) : Lawful s (stationCommand op operand s).1 := by
  unfold stationCommand
  split
  · exact h _
  · exact .refl s

theorem lawful_timed {f : State → State} (h : Lawful s (f s)) : Lawful s (timed f s) := by
  unfold timed
  split
  · exact h
  · exact .refl s

/-! ## Line commands (section 3.8) -/

theorem lawful_lineStart : Lawful s (lineStart s).1 := by
  unfold lineStart
  split
  · rename_i h
    refine (((Move.rest .idle s.le.stopMark (.inl (by rw [h]; rfl)) rfl
      fun hfits hm => absurd h (hfits hm).2).path ⟨rfl, rfl, rfl, rfl, rfl, id⟩).settle).lawful
  · exact .refl s

theorem lawful_lineStop : Lawful s (lineStop s).1 := by
  have hmark (hidle : s.le.state ≠ .idle) (hstopped : s.le.state ≠ .stopped) :
      Lawful s { s with le := { s.le with stopMark := true } } :=
    (((Move.mark hidle hstopped).path ⟨rfl, rfl, rfl, rfl, rfl, id⟩).effect_of_busy rfl (fun _ => rfl)
      hidle).lawful
  unfold lineStop
  cases h : s.le.state with
  | idle =>
    exact ((enterStopped_path s (.inl (by rw [h]; rfl))).effect_of_busy rfl (fun _ => rfl)
      nofun).lawful
  | stopped => exact .refl s
  | holding | turnaround | sending | awaiting | receiving | breaking =>
    exact hmark (by simp [h]) (by simp [h])

theorem withdraw_frame (l : LineInterface) :
    l.KeepsDividers l.withdraw ∧ l.withdraw.monitor = l.monitor := by
  unfold LineInterface.withdraw
  split <;> exact ⟨⟨rfl, id⟩, rfl⟩

theorem endBreak_frame (l : LineInterface) :
    l.KeepsDividers l.endBreak ∧ l.endBreak.monitor = l.monitor := by
  unfold LineInterface.endBreak
  split <;> exact ⟨⟨rfl, id⟩, rfl⟩

theorem effect_haltLine : Effect s (haltLine s) := by
  have hwithdraw : Effect s { s with li := s.li.withdraw } := by
    obtain ⟨hleft, hmonitor⟩ := withdraw_frame s.li
    exact effect_li s _ hleft fun h => hmonitor ▸ h
  have hend : Effect s { s with li := s.li.endBreak } := by
    obtain ⟨hleft, hmonitor⟩ := endBreak_frame s.li
    exact effect_li s _ hleft fun h => hmonitor ▸ h
  unfold haltLine
  cases s.le.state with
  | turnaround | sending => exact hwithdraw
  | breaking =>
    simp only
    split
    · exact hend.trans (effect_clearToggles _)
    · exact hend
  | stopped | idle | holding | awaiting | receiving => exact .refl s

/-- A halt ends what the engine holds, and leaves it STOPPED (R61). -/
theorem haltCurrent_path : Path s (haltCurrent s).enterStopped := by
  unfold haltCurrent
  cases hcurrent : s.le.current with
  | none => exact enterStopped_path s (.inr hcurrent)
  | some x =>
    let x' : Transaction := { x with payload := [], reservation := x.reservation.take 0 }
    let u : State :=
      { s with
        le := { s.le with current := some x' }
        fs := { s.fs with free := s.fs.free ++ x.payload ++ x.reservation } }
    have hu : Path s u := unreserve_path hcurrent rfl rfl rfl 0
    have hstop (v : State) : Path v { v with
        le := { v.le with attempt := Attempt.blank }
        eu := { v.eu with latches := v.eu.latches ||| 0x200#12 } } :=
      (path_attempt v Attempt.blank).trans (path_raise (e := .lineStopped) _ rfl)
    cases horigin : x.origin with
    | request tag =>
      let r : Record := { x.record tag .aborted x.cancel with stamp := s.tb.counter }
      let v : State := { u.withoutCurrent .stopped with
        cq := { ring := s.cq.ring ++ [r], reserved := s.cq.reserved - 1 } }
      have hv : Path u v := (Move.post (s := u) x' r .stopped rfl
        (by simp [x', Transaction.isRequest, horigin]) rfl rfl (fun _ => .inl rfl) rfl).path
          ⟨rfl, rfl, rfl, rfl, rfl, id⟩
      have hposted : Path v (v.raise .completionPosted) := path_raise v rfl
      simp only [haltTransaction, horigin]
      exact ((hu.trans hv).trans hposted).trans (hstop _)
    | pollSlot | readSlot | probe =>
      have hv : Path u (u.withoutCurrent .stopped) := (Move.drop (s := u) x' .stopped rfl
        (by simp [x', Transaction.isRequest, horigin]) rfl rfl rfl).path ⟨rfl, rfl, rfl, rfl, rfl, id⟩
      simp only [haltTransaction, horigin]
      exact (hu.trans hv).trans (hstop _)

theorem haltCurrent_frame : (haltCurrent s).cu = s.cu ∧ (haltCurrent s).st = s.st := by
  unfold haltCurrent
  split
  · rename_i x hx
    cases horigin : x.origin <;> simp only [haltTransaction, horigin] <;> exact ⟨rfl, rfl⟩
  · exact ⟨rfl, rfl⟩

theorem lawful_lineHalt : Lawful s (lineHalt s).1 := by
  unfold lineHalt
  split
  · exact .refl s
  · obtain ⟨hcu, hst⟩ := haltCurrent_frame (haltLine s)
    refine ((effect_haltLine s).trans ((haltCurrent_path (haltLine s)).effect_of_busy hcu
      (fun i => ?_) (by show EngineState.stopped ≠ _; decide))).lawful
    show ((haltCurrent (haltLine s)).station i).state = _
    rw [State.station, hst]
    rfl

theorem breakOrder_frame (l : LineInterface) (clock : Bool) :
    l.KeepsDividers (l.breakOrder clock) := by
  unfold LineInterface.breakOrder
  split
  · exact ⟨rfl, fun _ => rfl⟩
  all_goals exact ⟨rfl, id⟩

theorem lawful_lineBreak : Lawful s (lineBreak s).1 := by
  have horder (h : s.le.state.holds = false) : Lawful s (orderBreak s) := by
    have hdividers := breakOrder_frame s.li s.pins.clock
    refine Effect.lawful (Path.effect_of_busy ?_ rfl (fun _ => rfl) nofun)
    refine ((Move.rest .breaking s.le.stopMark (.inl h) rfl fun _ _ => rfl).path
      ⟨rfl, rfl, rfl, rfl, rfl, id⟩).trans ?_
    exact .aside ⟨rfl, rfl, rfl, rfl, rfl, rfl, rfl, rfl, rfl, rfl, rfl⟩
      (.of_same rfl rfl rfl rfl rfl rfl) ⟨rfl, rfl, rfl, hdividers.1, rfl, hdividers.2⟩
  unfold lineBreak
  cases h : s.le.state with
  | idle | stopped => exact horder (by rw [h]; rfl)
  | holding | turnaround | sending | awaiting | receiving | breaking => exact .refl s

/-! ## Schedule commands (sections 5.1.3, 5.4) -/

theorem runSchedule_change : CycleChange s (runSchedule s) := by
  unfold runSchedule
  simp only
  refine .trans ?_ (cycleStart_change _)
  refine .trans ?_ (loadTimer_change _)
  split
  · exact (exchangeBanks_change s).trans (.of_cu _ _ rfl rfl)
  · exact .of_cu s _ rfl rfl

theorem lawful_schedRun : Lawful s (schedRun s).1 := by
  unfold schedRun
  split
  · exact (runSchedule_change s).path.settle.lawful
  · exact .refl s

theorem lawful_schedHalt : Lawful s (schedHalt s).1 := by
  unfold schedHalt
  split
  · exact .refl s
  · exact ((CycleChange.of_cu s (haltSchedule s).cu rfl rfl).path.settle).lawful

/-- The Cycle Unit changes, but for what it offers. -/
theorem lawful_cu (c : CycleUnit) (hstate : c.state = s.cu.state)
    (hoffer : ({ s with cu := c } : State).offer = s.offer) : Lawful s { s with cu := c } :=
  .aside ⟨rfl, rfl, rfl, rfl, rfl, rfl, rfl, rfl, rfl, rfl, rfl⟩ (.of_same rfl rfl rfl rfl rfl rfl)
    ⟨hstate, hoffer, rfl, rfl, id, rfl, rfl, rfl, rfl, rfl, rfl, rfl, fun _ => rfl, fun _ => rfl⟩ rfl

theorem lawful_schedSwap : Lawful s (schedSwap s).1 := by
  unfold schedSwap
  split
  · rename_i h
    refine lawful_cu s _ rfl ?_
    rw [(formOffer_outside s (.inl h)).2]
    exact (formOffer_outside s.exchangeBanks (.inl h)).2
  · split
    · exact .refl s
    · exact lawful_cu s _ rfl rfl

/-! ## Station commands (sections 4.3, 4.5) -/

/-- An entry is replaced, with what is kept of it, and its change of state noted. -/
theorem noted_path (i : Fin 32) (e : Station) (old new : StationState) (h : (s.station i).Kept e) :
    Path s ((s.setStation i e).note i old new) := by
  have hset : Path s (s.setStation i e) :=
    .aside ⟨rfl, rfl, rfl, rfl, rfl, rfl, rfl, rfl, rfl, rfl, rfl⟩
      ⟨id, id, id, id, id, stations_kept_set rfl h⟩ ⟨rfl, rfl, rfl, rfl, rfl, id⟩
  refine hset.trans ?_
  unfold State.note
  split
  · exact .refl _
  · exact .aside ⟨rfl, rfl, rfl, rfl, rfl, rfl, rfl, rfl, rfl, rfl, rfl⟩
      ⟨id, id, id, fun hn => notedIn_nodup hn _ _ _ _, id, fun hs ha => ⟨hs, ha⟩⟩
      ⟨rfl, rfl, rfl, rfl, rfl, id⟩

theorem enableStation_path (i : Fin 32) (h : (s.station i).state = .disabled) :
    Path s (enableStation i s) := by
  refine noted_path s i _ _ _ (.of_known (by rw [h]; decide) rfl rfl rfl rfl nofun fun hpos _ => ?_)
  simpa [Station.failCountFits] using failLimit_pos hpos

/-- The fail count of an active entry fits a DISABLED one. -/
theorem kept_disabled (e : Station) (h : e.state.active = true) :
    e.Kept { e with state := .disabled } := by
  refine .of_known (StationState.ne_unconfigured_of_active h) rfl rfl rfl rfl nofun fun _ hfits => ?_
  cases hs : e.state with
  | unconfigured | disabled => simp [hs, StationState.active] at h
  | probing | online | degraded | offline | mismatched =>
    simp only [Station.failCountFits, hs, decide_eq_true_eq] at hfits ⊢
    omega

theorem disableStation_path (i : Fin 32) (h : (s.station i).state.active = true) :
    Path s (disableStation i s) := noted_path s i _ _ _ (kept_disabled _ h)

theorem lawful_stnEnable (i : Fin 32) : Lawful s (stnEnable i s).1 := by
  unfold stnEnable
  cases h : (s.station i).state with
  | disabled => exact (enableStation_path s i h).settle.lawful
  | unconfigured | probing | online | degraded | offline | mismatched => exact .refl s

theorem lawful_stnDisable (i : Fin 32) : Lawful s (stnDisable i s).1 := by
  unfold stnDisable
  cases h : (s.station i).state with
  | disabled | unconfigured => exact .refl s
  | probing | online | degraded | offline | mismatched =>
    exact (disableStation_path s i (by rw [h]; rfl)).settle.lawful

theorem lawful_chgPop : Lawful s (chgPop s).1 := by
  unfold chgPop
  split
  · exact .refl s
  · rename_i n q hq
    refine .aside ⟨rfl, rfl, rfl, rfl, rfl, rfl, rfl, rfl, rfl, rfl, rfl⟩
      ⟨id, id, id, fun h => ?_, id, fun hs ha => ⟨hs, ha⟩⟩
      ⟨rfl, rfl, rfl, rfl, id, rfl, rfl, rfl, rfl, rfl, rfl, rfl, fun _ => rfl, fun _ => rfl⟩ rfl
    rw [State.NoticesDistinct, hq, List.map_cons, List.nodup_cons] at h
    exact h.2

/-! ## Reading commands (sections 7.5, 8.3.1) -/

/-- The cursor and the snapshots are no part of the choice. -/
theorem SameChoice.of_store (f : FrameStore) (h : f.free = s.fs.free) :
    SameChoice s { s with fs := f } := .of_fields rfl rfl ⟨rfl, rfl, rfl, rfl, rfl⟩ id rfl rfl h

theorem lawful_cpOpen : Lawful s (cpOpen s).1 := by
  unfold cpOpen
  split
  · exact .refl s
  · rename_i r l hring
    split
    · exact .refl s
    · rename_i hchain
      exact (Move.openCompletion r l hring hchain).lawful (.of_store s _ rfl) rfl

theorem lawful_cpRetire : Lawful s (cpRetire s).1 := by
  unfold cpRetire
  split
  · exact .refl s
  · rename_i r l hring
    refine ((Move.retire r l hring).path ?_).settle.lawful
    rw [retireHead_eq]
    exact ⟨rfl, rfl, rfl, rfl, rfl, id⟩

theorem lawful_snapPin (i : Fin 32) : Lawful s (snapPin i s).1 := by
  unfold snapPin
  simp only
  split
  · exact .refl s
  · split
    · exact .refl s
    · rename_i hnone
      exact (Move.pin i (by simpa [Option.isSome_iff_ne_none] using hnone)).lawful
        (.of_store s _ rfl) rfl

theorem lawful_snapUnpin (i : Fin 32) : Lawful s (snapUnpin i s).1 := by
  unfold snapUnpin
  split
  · rename_i h
    refine ((Move.unpin i h).path ?_).settle.lawful
    rw [unpin_frame]
    exact ⟨rfl, rfl, rfl, rfl, rfl, id⟩
  · exact .refl s

theorem lawful_snapOpen (i : Fin 32) : Lawful s (snapOpen i s).1 := by
  unfold snapOpen
  simp only
  split
  · exact .refl s
  · rename_i hpin
    split
    · exact .refl s
    · rename_i r hr
      split
      · exact .refl s
      · rename_i hchain
        exact (Move.openSnapshot i r (by simpa using hpin) hr hchain).lawful (.of_store s _ rfl) rfl
end

end Sys2Proof.Machine

/-! PROOF. The request commands (sections 7.1, 7.2, 7.4) as lawful changes. -/

namespace Sys2Proof.Machine

section
variable (s : State)

theorem lawful_rqClear : Lawful s (rqClear s).1 :=
  (lawful_staging s .cleared fun _ => Nat.zero_le _).trans
    (Move.openStaging.lawful (.of_store _ _ rfl) rfl)

/-! ## Submission (R124, R125) -/

/-- The copy of the payload and the cleared staging area are no part of the accounts. -/
theorem accepted_path {t u : State} (h : Path s t) (m : Memory) (hm : t.MemoryFits → m.wf = true)
    (hu : u = { t with
      fs := { t.fs with mem := m }, ru := { t.ru with staging := .cleared } }) : Path s u := by
  subst hu
  exact h.trans (.aside ⟨rfl, rfl, rfl, rfl, rfl, rfl, rfl, rfl, rfl, rfl, rfl⟩
    ⟨hm, id, id, id, fun _ => Nat.zero_le _, fun hs ha => ⟨hs, ha⟩⟩ ⟨rfl, rfl, rfl, rfl, rfl, id⟩)

/-- An acceptance: the blocks, the slot and the place in the queue go to the request (R125). -/
theorem acceptRequest_path (r : Request) (n : Nat) (hslots : s.slotsFull = false)
    (hqueue : s.queueFull = false) :
    Path s (acceptRequest r (s.fs.free.take n)
      { s with fs := { s.fs with free := s.fs.free.drop n } }) := by
  have hfree : s.cq.reserved + s.cq.ring.length < 32 := by
    simpa [State.slotsFull] using hslots
  have hmem : s.MemoryFits → Memory.wf
      (Memory.storeFrom (s.fs.free.take n) 0 s.ru.staging.payload s.fs.mem) = true :=
    fun h => Memory.storeFrom_wf _ _ _ _ h
  have hframe {t : State} (h : t.pins = s.pins ∧ t.le = s.le ∧ t.tb = s.tb ∧ t.li = s.li ∧
      t.pending = s.pending) : SameFrame s t := by
    obtain ⟨hpins, hle, htb, hli, hpending⟩ := h
    exact ⟨hpins, by rw [hle], htb, by rw [hli], hpending, fun h => by rw [hli]; exact h⟩
  cases hurgent : s.ru.staging.urgent with
  | true =>
    have hlen : s.ru.urgent.length < 8 := by
      simpa [State.queueFull, hurgent] using hqueue
    refine accepted_path s
      ((Move.acceptUrgent { r with payload := s.fs.free.take n } n hfree hlen rfl).path
        (hframe ⟨rfl, rfl, rfl, rfl, rfl⟩)) _ hmem ?_
    simp only [acceptRequest, State.enqueue, hurgent, if_true]
    rfl
  | false =>
    have hlen : s.ru.normal.length < 16 := by
      simpa [State.queueFull, hurgent] using hqueue
    refine accepted_path s
      ((Move.acceptNormal { r with payload := s.fs.free.take n } n hfree hlen rfl).path
        (hframe ⟨rfl, rfl, rfl, rfl, rfl⟩)) _ hmem ?_
    simp only [acceptRequest, State.enqueue, hurgent, Bool.false_eq_true, if_false]
    rfl

theorem lawful_rqSubmit : Lawful s (rqSubmit s).1 := by
  unfold rqSubmit
  split
  · exact .refl s
  · rename_i r hr
    split
    · exact .refl s
    · split
      · exact .refl s
      · rename_i hslots
        split
        · exact .refl s
        · rename_i hqueue
          split
          · exact .refl s
          · rename_i chain t hallocate
            obtain ⟨-, rfl, rfl⟩ := allocate_some s _ _ _ hallocate
            exact (acceptRequest_path s r _ (by simpa using hslots) (by simpa using hqueue)).settle.lawful

/-! ## Cancelling (R132 to R134) -/

/-- The entry that a search finds comes out of the list by the same search. -/
theorem perm_cons_eraseP {α : Type} {p : α → Bool} {l : List α} {a : α} (h : l.find? p = some a) :
    l.Perm (a :: l.eraseP p) := by
  induction l with
  | nil => cases h
  | cons b l ih =>
    cases hb : p b with
    | true =>
      rw [List.find?_cons_of_pos hb, Option.some.injEq] at h
      rw [List.eraseP_cons_of_pos hb, h]
    | false =>
      rw [List.find?_cons_of_neg (by simp [hb])] at h
      rw [List.eraseP_cons_of_neg (by simp [hb])]
      exact ((ih h).cons b).trans (.swap a b _)

theorem lawful_cancelCurrent : Lawful s (cancelCurrent s).1 := by
  unfold cancelCurrent
  split
  · rename_i x hx
    split
    · split
      · exact .refl s
      · simp only
        split
        · have hend : Path s (endTransaction { x with cancel := true }
              ({ x with cancel := true } : Transaction).roundResult s) :=
            endTransaction_path hx rfl rfl rfl (roundResult_fits { x with cancel := true } _)
          exact hend.settle.lawful
        · exact (Move.retouch x { x with cancel := true } hx rfl rfl rfl).lawful
            (.of_fields rfl rfl ⟨rfl, rfl, rfl, rfl, rfl⟩ id rfl rfl rfl) rfl
    · exact .refl s
  · exact .refl s

theorem lawful_rqCancel : Lawful s (rqCancel s).1 := by
  unfold rqCancel
  simp only
  split
  · rename_i r hr
    exact (endUrgent_path s r _ .cancelled true (perm_cons_eraseP hr)).settle.lawful
  · split
    · rename_i r hr
      exact (endNormal_path s r _ .cancelled true (perm_cons_eraseP hr)).settle.lawful
    · split
      · rename_i d hd
        exact (removeDeferred_path s d (List.mem_of_find?_eq_some hd) .cancelled true).settle.lawful
      · exact lawful_cancelCurrent s
end

/-! ## Flushing (R136, R137) -/

/-- The requests of the urgent queue end one by one. -/
theorem abortUrgent_path (l : List Request) (s : State) (h : s.ru.urgent = l) :
    Path s (abortQueued l { s with ru := { s.ru with urgent := [] } }) := by
  induction l generalizing s with
  | nil =>
    rw [abortQueued, ← h]
    exact .refl s
  | cons r l ih =>
    let t : State := ({ s with ru := { s.ru with urgent := l } } : State).endQueued r .aborted false
    exact (endUrgent_path s r l .aborted false (by rw [h])).trans (ih t rfl)

/-- The requests of the normal queue end one by one. -/
theorem abortNormal_path (l : List Request) (s : State) (h : s.ru.normal = l) :
    Path s (abortQueued l { s with ru := { s.ru with normal := [] } }) := by
  induction l generalizing s with
  | nil =>
    rw [abortQueued, ← h]
    exact .refl s
  | cons r l ih =>
    let t : State := ({ s with ru := { s.ru with normal := l } } : State).endQueued r .aborted false
    exact (endNormal_path s r l .aborted false (by rw [h])).trans (ih t rfl)

/-- The end of a deferred transaction leaves the engine. -/
theorem endDeferred_le (s : State) (x : Transaction) (o : ReqOutcome) (cancel : Bool) :
    (s.endDeferred x o cancel).le = s.le := by
  unfold State.endDeferred
  split <;> rfl

/-- It does not depend on what the list holds. -/
theorem endDeferred_comm (s : State) (x : Transaction) (o : ReqOutcome) (cancel : Bool)
    (l : List Deferred) (ex : List (Fin 4)) :
    ({ s with le := { s.le with deferred := l, expired := ex } } : State).endDeferred x o cancel =
      let t := s.endDeferred x o cancel
      { t with le := { t.le with deferred := l, expired := ex } } := by
  unfold State.endDeferred
  split <;> rfl

/-- The entries of the deferred list end one by one. -/
theorem abortDeferred_path (l : List Deferred) (s : State) (h : s.le.deferred = l)
    (hexpired : s.le.expired = []) :
    Path s (abortDeferred l { s with le := { s.le with deferred := [], expired := [] } }) := by
  induction l generalizing s with
  | nil =>
    rw [abortDeferred]
    have heq : { s with le := { s.le with deferred := [], expired := [] } } = s := by
      rw [← hexpired]
      conv_lhs => rw [← h]
    rw [heq]
    exact .refl s
  | cons d l ih =>
    let t : State :=
      ({ s with le := { s.le with deferred := l, expired := [] } } : State).endDeferred d.txn
        .aborted false
    have hle : t.le = { s.le with deferred := l, expired := [] } := endDeferred_le _ _ _ _
    have hone : Path s t := endDeferred_path s d l [] .aborted false (fun _ => by rw [h])
      (List.nil_sublist _) List.not_mem_nil
    have hrest := ih t (by rw [hle]) (by rw [hle])
    rw [abortDeferred]
    have heq : ({ s with le := { s.le with deferred := [], expired := [] } } : State).endDeferred
        d.txn .aborted false = { t with le := { t.le with deferred := [], expired := [] } } := by
      rw [endDeferred_comm s, show t = _ from endDeferred_comm s _ _ _ l []]
    rw [heq]
    exact hone.trans hrest

section
variable (s : State)

theorem flushUrgent_path : Path s (flushUrgent s) := abortUrgent_path _ s rfl

theorem flushNormal_path : Path s (flushNormal s) := abortNormal_path _ s rfl

theorem flushDeferred_path : Path s (flushDeferred s) :=
  (Move.forgetExpired.path ⟨rfl, rfl, rfl, rfl, rfl, id⟩).trans
    (abortDeferred_path s.le.deferred { s with le := { s.le with expired := [] } } rfl rfl)

theorem lawful_rqFlush (operand : Byte) : Lawful s (rqFlush operand s).1 := by
  unfold rqFlush
  split
  · exact (flushUrgent_path s).settle.lawful
  · split
    · exact (flushNormal_path s).settle.lawful
    · split
      · exact (((flushUrgent_path s).trans (flushNormal_path _)).trans (flushDeferred_path _)).settle.lawful
      · exact .refl s
end

end Sys2Proof.Machine

/-! PROOF. The table access mechanism (section 10.5): which entry TAB_SEL names, what TAB_READ loads (O25), and
what TAB_WRITE does to each table (O27, O28). -/

namespace Sys2Proof.Machine

/-! ## What TAB_SEL names -/

theorem indexBelow_of_lt {n : Nat} [NeZero n] {v : Byte} (h : v.toNat < n) :
    indexBelow n v = some (Fin.ofNat n v.toNat) := by
  rw [indexBelow, dif_pos h]
  congr 1
  exact Fin.ext (Nat.mod_eq_of_lt h).symm

theorem indexBelow_of_le {n : Nat} {v : Byte} (h : n ≤ v.toNat) : indexBelow n v = none :=
  dif_neg (by omega)

theorem indexBelow_val {n : Nat} (i : Fin n) (h : n ≤ 256) :
    indexBelow n (BitVec.ofNat 8 i.val) = some i := by
  have hi := i.isLt
  have hv : (BitVec.ofNat 8 i.val).toNat = i.val := by
    rw [BitVec.toNat_ofNat]
    omega
  rw [indexBelow, dif_pos (by omega)]
  exact congrArg some (Fin.ext hv)

section
variable {v : Byte}

theorem ne_of_toNat_ne {w n : Nat} {a c : BitVec w} (hc : c.toNat = n) (h : a.toNat ≠ n) : a ≠ c := by
  rintro rfl
  exact h hc

theorem scheduleEntry_slotA (h : v.toNat < 64) :
    scheduleEntry v = some (.slot .a (Fin.ofNat 64 v.toNat)) := by
  unfold scheduleEntry
  rw [if_neg (ne_of_toNat_ne (c := 64) (n := 64) rfl (by omega)),
    if_neg (ne_of_toNat_ne (c := 192) (n := 192) rfl (by omega)), if_pos h]

theorem scheduleEntry_slotB (h : 128 ≤ v.toNat) (h' : v.toNat < 192) :
    scheduleEntry v = some (.slot .b (Fin.ofNat 64 (v.toNat - 128))) := by
  unfold scheduleEntry
  rw [if_neg (ne_of_toNat_ne (c := 64) (n := 64) rfl (by omega)),
    if_neg (ne_of_toNat_ne (c := 192) (n := 192) rfl (by omega)), if_neg (by omega),
    if_pos ⟨h, h'⟩]

theorem scheduleEntry_none (h : (64 < v.toNat ∧ v.toNat < 128) ∨ 192 < v.toNat) :
    scheduleEntry v = none := by
  unfold scheduleEntry
  rw [if_neg (ne_of_toNat_ne (c := 64) (n := 64) rfl (by omega)),
    if_neg (ne_of_toNat_ne (c := 192) (n := 192) rfl (by omega)), if_neg (by omega),
    if_neg (by omega)]
end

/-- The index of the first slot of a bank. -/
def BankName.base (bank : BankName) : Nat := if bank = .a then 0 else 128

theorem scheduleEntry_slot (bank : BankName) (k : Fin 64) :
    scheduleEntry (BitVec.ofNat 8 (bank.base + k.val)) = some (.slot bank k) := by
  have hk := k.isLt
  cases bank with
  | a =>
    have hv : (BitVec.ofNat 8 (BankName.a.base + k.val)).toNat = k.val := by
      rw [BitVec.toNat_ofNat]
      simp only [BankName.base, if_true]
      omega
    rw [scheduleEntry_slotA (by omega), hv]
    exact congrArg _ (congrArg _ (Fin.ext (Nat.mod_eq_of_lt hk)))
  | b =>
    have hv : (BitVec.ofNat 8 (BankName.b.base + k.val)).toNat = 128 + k.val := by
      rw [BitVec.toNat_ofNat]
      simp only [BankName.base, reduceCtorEq, if_false]
      omega
    rw [scheduleEntry_slotB (by omega) (by omega), hv, Nat.add_sub_cancel_left]
    exact congrArg _ (congrArg _ (Fin.ext (Nat.mod_eq_of_lt hk)))

theorem scheduleEntry_length (bank : BankName) :
    scheduleEntry (BitVec.ofNat 8 (bank.base + 64)) = some (.length bank) := by
  cases bank <;> rfl

section
variable {s : State}

theorem selected_station (h : s.bi.tabSelect = 0) :
    s.selected = (indexBelow 32 s.bi.tabIndex).map .station := by
  rw [State.selected, h]; rfl

theorem selected_schedule (h : s.bi.tabSelect = 1) : s.selected = scheduleEntry s.bi.tabIndex := by
  rw [State.selected, h]; rfl

theorem selected_parameters (h : s.bi.tabSelect = 2) (hn : s.bi.tabIndex = 0) :
    s.selected = some .lineParameters := by
  rw [State.selected, h, hn]; rfl

theorem selected_snapshot (h : s.bi.tabSelect = 3) :
    s.selected = (indexBelow 32 s.bi.tabIndex).map .snapshot := by
  rw [State.selected, h]; rfl

theorem selected_route (h : s.bi.tabSelect = 4) :
    s.selected = (indexBelow 12 s.bi.tabIndex).map .route := by
  rw [State.selected, h]; rfl

theorem selected_changeHead (h : s.bi.tabSelect = 5) (hn : s.bi.tabIndex = 0) :
    s.selected = some .changeHead := by
  rw [State.selected, h, hn]; rfl

/-- The selects and indices that name no entry (R185). -/
theorem selected_none (h : 6 ≤ s.bi.tabSelect.toNat ∨
      ((s.bi.tabSelect = 0 ∨ s.bi.tabSelect = 3) ∧ 32 ≤ s.bi.tabIndex.toNat) ∨
      (s.bi.tabSelect = 1 ∧
        ((64 < s.bi.tabIndex.toNat ∧ s.bi.tabIndex.toNat < 128) ∨ 192 < s.bi.tabIndex.toNat)) ∨
      ((s.bi.tabSelect = 2 ∨ s.bi.tabSelect = 5) ∧ s.bi.tabIndex ≠ 0) ∨
      (s.bi.tabSelect = 4 ∧ 12 ≤ s.bi.tabIndex.toNat)) : s.selected = none := by
  rcases h with h | ⟨h | h, hn⟩ | ⟨h, hn⟩ | ⟨h | h, hn⟩ | ⟨h, hn⟩
  · unfold State.selected tabEntry
    rw [if_neg (ne_of_toNat_ne (c := 0) (n := 0) rfl (by omega)),
      if_neg (ne_of_toNat_ne (c := 1) (n := 1) rfl (by omega)),
      if_neg (ne_of_toNat_ne (c := 2) (n := 2) rfl (by omega)),
      if_neg (ne_of_toNat_ne (c := 3) (n := 3) rfl (by omega)),
      if_neg (ne_of_toNat_ne (c := 4) (n := 4) rfl (by omega)),
      if_neg (ne_of_toNat_ne (c := 5) (n := 5) rfl (by omega))]
  · rw [selected_station h, indexBelow_of_le hn]; rfl
  · rw [selected_snapshot h, indexBelow_of_le hn]; rfl
  · rw [selected_schedule h, scheduleEntry_none hn]
  · rw [State.selected, h]
    exact if_neg hn
  · rw [State.selected, h]
    exact if_neg hn
  · rw [selected_route h, indexBelow_of_le hn]; rfl

/-! ## TAB_READ and TAB_WRITE of what is named -/

theorem tabRead_taken (h : s.Taken) {e : TabEntry} (hsel : s.selected = some e) :
    hostCommand 0x70 tabRead s =
      ({ s with bi := { s.bi with image := s.imageOf e } } : State).answer 0x70 .done := by
  rw [hostCommand_taken _ _ _ h]
  simp only [tabRead, hsel]

theorem tabRead_none_taken (h : s.Taken) (hsel : s.selected = none) :
    hostCommand 0x70 tabRead s = s.answer 0x70 .badOperand := by
  rw [hostCommand_taken _ _ _ h]
  simp only [tabRead, hsel]

theorem tabWrite_none_taken (h : s.Taken) (hsel : s.selected = none) :
    hostCommand 0x71 tabWrite s = s.answer 0x71 .badOperand := by
  rw [hostCommand_taken _ _ _ h]
  simp only [tabWrite, hsel]

theorem tabWrite_readOnly_taken (h : s.Taken)
    (hsel : s.selected = some .changeHead ∨ ∃ i, s.selected = some (.snapshot i)) :
    hostCommand 0x71 tabWrite s = s.answer 0x71 .refusedState := by
  rw [hostCommand_taken _ _ _ h]
  rcases hsel with hsel | ⟨i, hsel⟩ <;> simp only [tabWrite, hsel]
end

/-! ## TAB_WRITE of a station entry (R81 to R83) -/

theorem active_iff (st : StationState) : st.active = true ↔ st ≠ .unconfigured ∧ st ≠ .disabled := by
  cases st <;> simp [StationState.active]

theorem outOfRange_iff (e : Station) :
    e.outOfRange = true ↔ ¬(e.failLimit ≠ 0 ∧ e.replyBlocks ≠ 0 ∧ e.probeInterval ≠ 0) := by
  simp only [Station.outOfRange, Bool.or_eq_true, decide_eq_true_eq, ne_eq]
  tauto

section
variable (s : State) (i : Fin 32)

theorem targeted_iff : s.targeted i = true ↔
    (∃ r ∈ s.ru.urgent, r.station = some i) ∨ (∃ r ∈ s.ru.normal, r.station = some i) ∨
      (∃ x, s.le.current = some x ∧ x.target = some i) ∨
      ∃ d ∈ s.le.deferred, d.txn.target = some i := by
  cases hcurrent : s.le.current <;> simp [State.targeted, hcurrent, or_assoc]

theorem addressTaken_iff (address : Byte) : s.addressTaken i address = true ↔
    ∃ j, j ≠ i ∧ (s.station j).state ≠ .unconfigured ∧ (s.station j).address = address := by
  simp [State.addressTaken, and_assoc]

theorem station_reset : State.reset.station i = Station.reset := by
  show (Vector.replicate 32 Station.reset)[i.val] = _
  simp

variable (staged : Station)

/-- The entry may be written: it takes no part in line work, and nothing targets it (R81, check 1). -/
def State.writable : Prop := (s.station i).state.active = false ∧ s.targeted i = false

theorem writable_iff : s.writable i ↔ ¬((s.station i).state.active = true ∨ s.targeted i = true) := by
  simp [State.writable]

theorem stationRefusal_busy (h : (s.station i).state.active = true ∨ s.targeted i = true) :
    s.stationRefusal i staged = some .entryBusy :=
  if_pos (by simpa using h)

variable {s i} (h : s.writable i)
include h

theorem stationRefusal_writable :
    s.stationRefusal i staged =
      if 240 ≤ staged.address.toNat then some .badOperand
      else if staged.address = 0 then none
      else if staged.outOfRange then some .badOperand
      else if s.addressTaken i staged.address then some .duplicate
      else none :=
  if_neg (by simp [h.1, h.2])

theorem stationRefusal_bad (hbad : 240 ≤ staged.address.toNat ∨
    staged.address ≠ 0 ∧
      ¬(staged.failLimit ≠ 0 ∧ staged.replyBlocks ≠ 0 ∧ staged.probeInterval ≠ 0)) :
    s.stationRefusal i staged = some .badOperand := by
  rw [stationRefusal_writable staged h]
  split_ifs with h1 h2 h3
  · rfl
  · exact absurd h2 (hbad.resolve_left h1).1
  · rfl
  · exact absurd ((outOfRange_iff staged).mpr (hbad.resolve_left h1).2) h3
  · exact absurd ((outOfRange_iff staged).mpr (hbad.resolve_left h1).2) h3

theorem stationRefusal_cleared (h0 : staged.address = 0) : s.stationRefusal i staged = none := by
  rw [stationRefusal_writable staged h, if_neg (by rw [h0]; decide), if_pos h0]

variable (h0 : staged.address ≠ 0) (hlt : staged.address.toNat < 240)
  (hranged : staged.failLimit ≠ 0 ∧ staged.replyBlocks ≠ 0 ∧ staged.probeInterval ≠ 0)
include h0 hlt hranged

theorem stationRefusal_ranged :
    s.stationRefusal i staged =
      if s.addressTaken i staged.address then some .duplicate else none := by
  rw [stationRefusal_writable staged h, if_neg (by omega), if_neg h0,
    if_neg (by rw [outOfRange_iff]; exact not_not_intro hranged)]
end

section
variable {s : State} {i : Fin 32}

/-- The station entry that TAB_SEL names is written (R186). -/
theorem tabWrite_station_taken (h : s.Taken) (hselect : s.bi.tabSelect = 0)
    (hindex : s.bi.tabIndex = BitVec.ofNat 8 i.val) :
    exec .tabWriteStation s =
      .next ((writeStation i s).1.answer 0x71 (writeStation i s).2) := by
  have hsel : s.selected = some (.station i) := by
    rw [selected_station hselect, hindex, indexBelow_val i (by omega)]
    rfl
  show Host.Outcome.next (hostCommand 0x71 tabWrite s) = _
  rw [hostCommand_taken _ _ _ h]
  simp only [tabWrite, hsel]

theorem writeStation_refused {r : ResultCode}
    (h : s.stationRefusal i ((s.station i).staged s.bi.image) = some r) :
    writeStation i s = (s, r) := by
  simp only [writeStation, h]

theorem writeStation_stored (h : s.stationRefusal i ((s.station i).staged s.bi.image) = none) :
    writeStation i s = (storeStation i ((s.station i).staged s.bi.image) s, .done) := by
  simp only [writeStation, h]

/-- An entry and its notice. -/
theorem setStation_note (e : Station) (old new : StationState) :
    (s.setStation i e).note i old new =
      { s with
        st :=
          { entries := s.st.entries.set i e
            changes :=
              if old = new then s.st.changes else notedIn s.st.changes i old new s.tb.counter } } := by
  unfold State.note
  split_ifs <;> rfl
end

/-! ## TAB_WRITE of the schedule (R92) -/

theorem slotKind_code (k : SlotKind) : slotKind k.code = some k := by cases k <;> rfl

theorem slotKind_none {c : BitVec 4} (h1 : c ≠ 1) (h2 : c ≠ 2) : slotKind c = none := by
  rw [slotKind, if_neg h1, if_neg h2]

section
variable {s : State} {bank : BankName}

theorem tabWrite_slot_taken (h : s.Taken) (hselect : s.bi.tabSelect = 1) {k : Fin 64}
    (hindex : s.bi.tabIndex = BitVec.ofNat 8 (bank.base + k.val)) :
    exec .tabWriteSchedule s =
      .next ((writeSlot bank k s).1.answer 0x71 (writeSlot bank k s).2) := by
  have hsel : s.selected = some (.slot bank k) := by
    rw [selected_schedule hselect, hindex, scheduleEntry_slot]
  show Host.Outcome.next (hostCommand 0x71 tabWrite s) = _
  rw [hostCommand_taken _ _ _ h]
  simp only [tabWrite, hsel]

theorem tabWrite_length_taken (h : s.Taken) (hselect : s.bi.tabSelect = 1)
    (hindex : s.bi.tabIndex = BitVec.ofNat 8 (bank.base + 64)) :
    exec .tabWriteSchedule s =
      .next ((writeLength bank s).1.answer 0x71 (writeLength bank s).2) := by
  have hsel : s.selected = some (.length bank) := by
    rw [selected_schedule hselect, hindex, scheduleEntry_length]
  show Host.Outcome.next (hostCommand 0x71 tabWrite s) = _
  rw [hostCommand_taken _ _ _ h]
  simp only [tabWrite, hsel]

theorem writeSlot_active (k : Fin 64) (h : s.cu.active = bank) :
    writeSlot bank k s = (s, .refusedState) := if_pos h

theorem writeLength_active (h : s.cu.active = bank) : writeLength bank s = (s, .refusedState) :=
  if_pos h

theorem writeSlot_bad (k : Fin 64) (h : s.cu.active ≠ bank)
    (hbad : 32 ≤ (field 8 0 (s.bi.image.get 0)).toNat ∨
      (field 4 8 (s.bi.image.get 0) ≠ 1 ∧ field 4 8 (s.bi.image.get 0) ≠ 2)) :
    writeSlot bank k s = (s, .badOperand) := by
  unfold writeSlot
  simp only [if_neg h]
  rcases hbad with hindex | ⟨h1, h2⟩
  · rw [indexBelow_of_le hindex]
  · rw [slotKind_none h1 h2]
    split
    · rename_i heq; cases heq
    · rfl

theorem writeSlot_stored (k : Fin 64) (h : s.cu.active ≠ bank) {kind : SlotKind}
    (hindex : (field 8 0 (s.bi.image.get 0)).toNat < 32)
    (hkind : field 4 8 (s.bi.image.get 0) = kind.code) :
    writeSlot bank k s =
      ({ s with
        cu := s.cu.setBank bank { s.cu.bank bank with
          slots := (s.cu.bank bank).slots.set k
            { station := Fin.ofNat 32 (field 8 0 (s.bi.image.get 0)).toNat, kind := kind,
              selector := field 8 0 (s.bi.image.get 1),
              enabled := decide (field 1 15 (s.bi.image.get 0) = 1) } } }, .done) := by
  unfold writeSlot
  simp only [if_neg h, indexBelow_of_lt hindex, hkind, slotKind_code]
  rfl

theorem writeLength_bad (h : s.cu.active ≠ bank)
    (hbad : field 8 0 (s.bi.image.get 0) = 0 ∨ 64 < (field 8 0 (s.bi.image.get 0)).toNat) :
    writeLength bank s = (s, .badOperand) := by
  unfold writeLength
  simp only [if_neg h, if_pos hbad]

theorem writeLength_stored (h : s.cu.active ≠ bank) (h0 : field 8 0 (s.bi.image.get 0) ≠ 0)
    (hle : (field 8 0 (s.bi.image.get 0)).toNat ≤ 64) :
    writeLength bank s =
      ({ s with
        cu := s.cu.setBank bank
          { s.cu.bank bank with length := (field 8 0 (s.bi.image.get 0)).setWidth 7 } }, .done) := by
  unfold writeLength
  simp only [if_neg h]
  rw [if_neg (by rw [not_or]; exact ⟨h0, by omega⟩)]
  rfl
end

/-! ## TAB_WRITE of the line parameters (R63) and of a route (R170) -/

theorem inRange_iff (p : LineParams) (w : Word) : p.inRange w = true ↔
    w.toNat ≤ 4095 ∧ p.window ≠ 0 ∧ p.gap ≠ 0 ∧ p.quiet ≠ 0 ∧ 2 ≤ p.breakLength.toNat ∧
      p.holdoff ≠ 0 ∧ 1 ≤ p.threshold.toNat ∧ p.threshold.toNat ≤ 32 := by
  simp only [LineParams.inRange, Bool.and_eq_true, decide_eq_true_eq, and_assoc]

section
variable {s : State}

theorem tabWrite_parameters_taken (h : s.Taken) (hselect : s.bi.tabSelect = 2)
    (hindex : s.bi.tabIndex = 0) :
    exec .tabWriteLineParameters s =
      .next ((writeParams s).1.answer 0x71 (writeParams s).2) := by
  show Host.Outcome.next (hostCommand 0x71 tabWrite s) = _
  rw [hostCommand_taken _ _ _ h]
  simp only [tabWrite, selected_parameters hselect hindex]

theorem writeParams_refused (h : s.le.state ≠ .stopped) : writeParams s = (s, .refusedState) :=
  if_pos h

theorem writeParams_bad (h : s.le.state = .stopped)
    (hbad : ¬(LineParams.staged s.bi.image).inRange (s.bi.image.get 0) = true) :
    writeParams s = (s, .badOperand) := by
  unfold writeParams
  simp only
  rw [if_neg (not_not_intro h), if_neg hbad]

theorem writeParams_stored (h : s.le.state = .stopped)
    (hranged : (LineParams.staged s.bi.image).inRange (s.bi.image.get 0) = true) :
    writeParams s = (storeParams (LineParams.staged s.bi.image) s, .done) := by
  unfold writeParams
  simp only
  rw [if_neg (not_not_intro h), if_pos hranged]

/-- Neither the divisor nor the quiet interval changes: the line goes on. -/
theorem storeParams_same {p : LineParams} (hdivisor : p.divisor = s.le.params.divisor)
    (hquiet : p.quiet = s.le.params.quiet) :
    storeParams p s = { s with le := { s.le with params := p } } := by
  unfold storeParams
  simp only [hdivisor, hquiet, and_self, if_true]

/-- A character in assembly is finished at the old divisor (R2). -/
theorem keepRate_eq (l : LineInterface) (old : BitVec 12) :
    l.keepRate old = { l with
      oldRate :=
        match l.rx, l.oldRate with
        | .assembling _ _ _, none => some { divisor := old.toNat, left := l.sampleLeft }
        | _, r => r } := by
  obtain ⟨tx, supplied, breakWaiting, rx, lastSample, sampleLeft, oldRate, monitor, quietTimer⟩ := l
  cases rx with
  | assembling sample shift foreign => cases oldRate <;> rfl
  | hunting candidate => rfl
  | heldLow sample votes armed => rfl
  | echoing shift => rfl

/-- A change of the divisor or of the quiet interval restarts the quiet timer (R14, R63). -/
theorem storeParams_changed {p : LineParams}
    (h : p.divisor ≠ s.le.params.divisor ∨ p.quiet ≠ s.le.params.quiet) :
    storeParams p s =
      { s with
        li := { s.li with
          monitor := .active, quietTimer := 0
          oldRate :=
            match s.li.rx, s.li.oldRate with
            | .assembling _ _ _, none =>
              if p.divisor = s.le.params.divisor then none
              else some { divisor := s.le.params.divisor.toNat, left := s.li.sampleLeft }
            | _, r => r }
        le := { s.le with params := p } } := by
  have hnot : ¬(s.le.params.divisor = p.divisor ∧ s.le.params.quiet = p.quiet) := by
    rintro ⟨hdivisor, hquiet⟩
    exact h.elim (fun h => h hdivisor.symm) fun h => h hquiet.symm
  unfold storeParams
  simp only [if_neg hnot, keepRate_eq]
  by_cases hdivisor : s.le.params.divisor = p.divisor
  · rw [if_pos hdivisor]
    have hrate : s.li.oldRate =
        match s.li.rx, s.li.oldRate with
        | .assembling _ _ _, none =>
          if p.divisor = s.le.params.divisor then none
          else some { divisor := s.le.params.divisor.toNat, left := s.li.sampleLeft }
        | _, r => r := by
      split
      · rename_i hnone
        rw [if_pos hdivisor.symm, hnone]
      · rfl
    rw [← hrate]
    rfl
  · rw [if_neg hdivisor, if_neg (Ne.symm hdivisor)]
    rfl

theorem tabWrite_route_taken (h : s.Taken) (hselect : s.bi.tabSelect = 4) {n : Fin 12}
    (hindex : s.bi.tabIndex = BitVec.ofNat 8 n.val) :
    exec .tabWriteRoute s =
      .next ((writeRoute n s).1.answer 0x71 (writeRoute n s).2) := by
  have hsel : s.selected = some (.route n) := by
    rw [selected_route hselect, hindex, indexBelow_val n (by omega)]
    rfl
  show Host.Outcome.next (hostCommand 0x71 tabWrite s) = _
  rw [hostCommand_taken _ _ _ h]
  simp only [tabWrite, hsel]

theorem outputOf_code (o : Output) : outputOf o.code = some o := by cases o <;> rfl

theorem outputOf_none {c : BitVec 2} (h : 2 ≤ c.toNat) : outputOf c = none := by
  rw [outputOf, if_neg (by rintro rfl; simp at h), if_neg (by rintro rfl; simp at h)]

theorem writeRoute_bad (n : Fin 12)
    (h : 8 ≤ (field 4 0 (s.bi.image.get 0)).toNat ∨ 2 ≤ (field 2 8 (s.bi.image.get 0)).toNat) :
    writeRoute n s = (s, .badOperand) := by
  unfold writeRoute
  simp only
  rcases h with hlevel | hout
  · split
    · rw [if_neg (by omega)]
    · rfl
  · rw [outputOf_none hout]

theorem writeRoute_stored (n : Fin 12) {o : Output} (hlevel : (field 4 0 (s.bi.image.get 0)).toNat < 8)
    (hout : field 2 8 (s.bi.image.get 0) = o.code) :
    writeRoute n s =
      ({ s with
        eu := { s.eu with
          routes := s.eu.routes.set n
            { level := (field 4 0 (s.bi.image.get 0)).setWidth 3, output := o } } }, .done) := by
  unfold writeRoute
  simp only [hout, outputOf_code]
  rw [if_pos (by omega)]
end

end Sys2Proof.Machine

namespace Sys2Proof.Proofs

open Sys2Proof.Machine

/-- Settles O25, table by table: TAB_SEL names the entry, and TAB_READ loads its image. -/
theorem tableReads : Obligations.TableReads := by
  unfold Obligations.TableReads
  intro s htaken n loads
  have hload {row : Instr} {e : TabEntry} (hrow : exec row s = .next (hostCommand 0x70 tabRead s))
      (hsel : s.selected = some e) : loads row (s.imageOf e) :=
    hrow.trans (congrArg _ (tabRead_taken htaken hsel))
  refine ⟨fun h hn => hload rfl (e := .station _) ?_, fun h hn => hload rfl (e := .slot .a _) ?_,
    fun h hn => hload rfl (e := .length .a) ?_, fun h hn hn' => hload rfl (e := .slot .b _) ?_,
    fun h hn => hload rfl (e := .length .b) ?_, fun h hn => hload rfl (selected_parameters h hn),
    fun h hn => hload rfl (e := .snapshot _) ?_, fun h hn => hload rfl (e := .route _) ?_,
    fun h hn => hload rfl (selected_changeHead h hn), fun h => ⟨?_, ?_⟩⟩
  · rw [selected_station h, indexBelow_of_lt hn]; rfl
  · rw [selected_schedule h, scheduleEntry_slotA hn]
  · rw [selected_schedule h, show s.bi.tabIndex = 64 from hn]; rfl
  · rw [selected_schedule h, scheduleEntry_slotB hn hn']
  · rw [selected_schedule h, show s.bi.tabIndex = 192 from hn]; rfl
  · rw [selected_snapshot h, indexBelow_of_lt hn]; rfl
  · rw [selected_route h, indexBelow_of_lt hn]; rfl
  · exact congrArg Host.Outcome.next (tabRead_none_taken htaken (selected_none h))
  · exact congrArg Host.Outcome.next (tabWrite_none_taken htaken (selected_none h))

/-- Settles O27: the checks in their order, then what is stored. -/
theorem tableWriteStation : Obligations.TableWriteStation := by
  unfold Obligations.TableWriteStation
  intro s i htaken hselect hindex old new busy ranged taken same
  have hexec := tabWrite_station_taken htaken hselect hindex
  have hrefuse {r : ResultCode} (h : s.stationRefusal i new = some r) :
      exec .tabWriteStation s = .next (s.answer 0x71 r) := by
    rw [hexec, writeStation_refused h]
  have hstore (h : s.stationRefusal i new = none) :
      exec .tabWriteStation s = .next ((storeStation i new s).answer 0x71 .done) := by
    rw [hexec, writeStation_stored h]
  refine ⟨targeted_iff s i, station_reset, active_iff _, fun h => hrefuse (stationRefusal_busy s i _ h),
    fun h hbad => ?_, fun h h0 hlt hranged htaken => ?_, fun h h0 hlt hranged htaken => ?_,
    fun h h0 => ?_⟩ <;> rw [← writable_iff] at h
  · exact hrefuse (stationRefusal_bad _ h hbad)
  · refine hrefuse ?_
    rw [stationRefusal_ranged _ h h0 hlt hranged, if_pos ((addressTaken_iff s i _).mpr htaken)]
  · rw [hstore (by rw [stationRefusal_ranged _ h h0 hlt hranged,
      if_neg (fun ht => htaken ((addressTaken_iff s i _).mp ht))])]
    unfold storeStation
    simp only [if_neg h0, setStation_note, Station.configured, same]
    by_cases haddress : new.address = old.address <;> simp [haddress, old, new]
  · rw [hstore (stationRefusal_cleared _ h h0)]
    unfold storeStation
    simp only [if_pos h0, setStation_note]
    rfl

/-- Settles O28, table by table. -/
theorem tableWriteOthers : Obligations.TableWriteOthers := by
  unfold Obligations.TableWriteOthers
  refine ⟨fun s bank htaken hselect => ?_, fun c x => ⟨rfl, rfl, rfl, rfl⟩, fun width low w => rfl,
    fun s htaken => ?_⟩
  case refine_1 =>
    refine ⟨fun k hindex hactive => ?_, fun k hindex hactive => ⟨fun hbad => ?_,
      fun kind hn hkind => ?_⟩, fun hindex hactive => ⟨fun hbad => ?_, fun h0 hle => ?_⟩⟩
    · by_cases hk : k.val < 64
      · have hslot := tabWrite_slot_taken (bank := bank) (k := ⟨k.val, hk⟩) htaken hselect hindex
        rw [hslot, writeSlot_active _ hactive]
      · have hlast : k.val = 64 := by omega
        rw [hlast] at hindex
        rw [tabWrite_length_taken (bank := bank) htaken hselect hindex, writeLength_active hactive]
    · rw [tabWrite_slot_taken (bank := bank) htaken hselect hindex, writeSlot_bad k hactive hbad]
    · rw [tabWrite_slot_taken (bank := bank) htaken hselect hindex,
        writeSlot_stored k hactive hn hkind]
    · rw [tabWrite_length_taken (bank := bank) htaken hselect hindex, writeLength_bad hactive hbad]
    · rw [tabWrite_length_taken (bank := bank) htaken hselect hindex,
        writeLength_stored hactive h0 hle]
  case refine_2 =>
    intro p old ranged w0
    have hranged : p.inRange w0 = true ↔ ranged := inRange_iff p w0
    refine ⟨fun hselect hindex h => ?_, fun hselect hindex h hbad => ?_,
      fun hselect hindex h hok hdivisor hquiet => ?_, fun hselect hindex h hok hchanged => ?_,
      fun n hselect hindex => ⟨fun hbad => ?_, fun o hlevel hout => ?_⟩, fun hselect hn => ?_,
      fun hselect hindex => ?_⟩
    · rw [tabWrite_parameters_taken htaken hselect hindex, writeParams_refused h]
    · rw [tabWrite_parameters_taken htaken hselect hindex, writeParams_bad h (hranged.not.mpr hbad)]
    · rw [tabWrite_parameters_taken htaken hselect hindex, writeParams_stored h (hranged.mpr hok)]
      exact congrArg (fun t => Host.Outcome.next (State.answer t 0x71 .done))
        (storeParams_same hdivisor hquiet)
    · rw [tabWrite_parameters_taken htaken hselect hindex, writeParams_stored h (hranged.mpr hok)]
      exact congrArg (fun t => Host.Outcome.next (State.answer t 0x71 .done))
        (storeParams_changed hchanged)
    · rw [tabWrite_route_taken htaken hselect hindex, writeRoute_bad n hbad]
    · rw [tabWrite_route_taken htaken hselect hindex, writeRoute_stored n hlevel hout]
    · refine congrArg Host.Outcome.next (tabWrite_readOnly_taken htaken
        (.inr ⟨Fin.ofNat 32 s.bi.tabIndex.toNat, ?_⟩))
      rw [selected_snapshot hselect, indexBelow_of_lt hn]
      rfl
    · exact congrArg Host.Outcome.next
        (tabWrite_readOnly_taken htaken (.inl (selected_changeHead hselect hindex)))

end Sys2Proof.Proofs

/-! PROOF. The table writes, the registers and the resets as lawful changes, and with them every row and every
step (O3, O52 to O60). -/

namespace Sys2Proof.Machine

/-! ## TAB_WRITE of a station entry (R81 to R83) -/

section
variable {s : State} {i : Fin 32}

/-- The entry that a write stores. -/
def Station.stored (old staged : Station) : Station :=
  if staged.address = 0 then Station.reset else old.configured staged

theorem storeStation_eq (staged : Station) :
    storeStation i staged s =
      (s.setStation i ((s.station i).stored staged)).note i (s.station i).state
        ((s.station i).stored staged).state := rfl

theorem stored_inactive (old staged : Station) : (old.stored staged).state.active = false := by
  unfold Station.stored
  split <;> rfl

/-- An entry that passed the checks of R81. -/
theorem stationRefusal_none {staged : Station} (h : s.stationRefusal i staged = none) :
    s.writable i ∧ staged.address.toNat < 240 ∧ (staged.address ≠ 0 →
      staged.outOfRange = false ∧ s.addressTaken i staged.address = false) := by
  unfold State.stationRefusal at h
  split_ifs at h with hbusy hlarge hzero hrange htaken
  · exact ⟨by simpa [State.writable] using hbusy, by omega, fun hne => absurd hzero hne⟩
  · exact ⟨by simpa [State.writable] using hbusy, by omega,
      fun _ => ⟨by simpa using hrange, by simpa using htaken⟩⟩

/-- The stored entry is as R66 and R74 say. -/
theorem stored_fits (old : Station) {staged : Station} (hlarge : staged.address.toNat < 240)
    (hrange : staged.address ≠ 0 → staged.outOfRange = false) : (old.stored staged).Fits := by
  unfold Station.stored
  split_ifs with h
  · exact ⟨rfl, rfl⟩
  · have hranged := (outOfRange_iff staged).not.mp (by rw [hrange h]; decide)
    obtain ⟨hlimit, hblocks, hprobe⟩ := not_not.mp hranged
    have hle : staged.address.toNat ≤ 239 := by omega
    refine ⟨?_, decide_eq_true (p := (0 : BitVec 4).toNat ≤ staged.failLimit.toNat) (Nat.zero_le _)⟩
    have hall : ((staged.address ≠ 0 ∧ staged.failLimit ≠ 0) ∧ staged.replyBlocks ≠ 0) ∧
        staged.probeInterval ≠ 0 := ⟨⟨⟨h, hlimit⟩, hblocks⟩, hprobe⟩
    simpa [Station.configFits, Station.configured, hle] using hall

/-- The entries stay fit and their addresses distinct. -/
theorem storeStation_stations {staged : Station} (h : s.stationRefusal i staged = none) {t : State}
    (hentries : t.st.entries = s.st.entries.set i ((s.station i).stored staged))
    (hfits : s.StationsFit) (haddress : s.AddressesDistinct) :
    t.StationsFit ∧ t.AddressesDistinct := by
  obtain ⟨-, hlarge, hnew⟩ := stationRefusal_none h
  have hstation (j : Fin 32) :
      t.station j = if j = i then (s.station i).stored staged else s.station j := by
    rw [State.station, hentries, vector_get_set]; rfl
  have hclash (j : Fin 32) (hj : j ≠ i) (hconfigured : (s.station j).state ≠ .unconfigured)
      (hstored : ((s.station i).stored staged).state ≠ .unconfigured) :
      (s.station j).address ≠ ((s.station i).stored staged).address := by
    unfold Station.stored at hstored ⊢
    split_ifs at hstored ⊢ with h0
    · exact absurd rfl hstored
    · intro heq
      have := (addressTaken_iff s i staged.address).mpr ⟨j, hj, hconfigured, heq⟩
      rw [(hnew h0).2] at this
      cases this
  refine ⟨fun j => ?_, fun j k hj hk hjk => ?_⟩
  · rw [hstation]
    split_ifs
    · exact stored_fits _ hlarge fun hne => (hnew hne).1
    · exact hfits j
  · rw [hstation] at hj hk hjk
    rw [hstation] at hjk
    by_cases hji : j = i <;> by_cases hki : k = i
    · rw [hji, hki]
    · rw [if_pos hji] at hj hjk
      rw [if_neg hki] at hk hjk
      exact absurd hjk.symm (hclash k hki hk hj)
    · rw [if_neg hji] at hj hjk
      rw [if_pos hki] at hk hjk
      exact absurd hjk (hclash j hji hj hk)
    · rw [if_neg hji] at hj hjk
      rw [if_neg hki] at hk hjk
      exact haddress j k hj hk hjk
end

/-! ## A station that takes no part in the choice -/

/-- The station that a candidate names, if any. -/
def Candidate.target : Candidate → Option (Fin 32)
  | .deferred d => d.txn.target
  | .urgent r _ | .normal r _ => r.station
  | .offer o => some o.station

section
variable {s t : State}

/-- The check and the need of a candidate depend on the station it names alone. -/
theorem candidate_congr (c : Candidate) (h : ∀ i, c.target = some i → t.station i = s.station i) :
    (c.turnedAway t).isNone = (c.turnedAway s).isNone ∧ c.need t = c.need s := by
  have hcheck (k : CommandKind) (target : Option (Fin 32))
      (htarget : ∀ i, target = some i → t.station i = s.station i) :
      t.checkTarget k target = s.checkTarget k target := by
    cases target with
    | none => rfl
    | some i => simp only [State.checkTarget, htarget i rfl]
  have hblocks (target : Option (Fin 32)) (b : Option (BitVec 2))
      (htarget : ∀ i, target = some i → t.station i = s.station i) :
      t.blocksNeeded target b = s.blocksNeeded target b := by
    cases target with
    | none => rfl
    | some i =>
      cases b with
      | none => simp only [State.blocksNeeded, htarget i rfl]
      | some b => rfl
  cases c with
  | deferred d =>
    refine ⟨?_, hblocks _ _ h⟩
    have hpolled : t.stillPolled d.txn = s.stillPolled d.txn := by
      unfold State.stillPolled
      cases htarget : d.txn.target with
      | none => rfl
      | some i => simp only [h i htarget]
    unfold Candidate.turnedAway
    simp only
    cases d.txn.origin with
    | request tag => rw [Option.isNone_map, Option.isNone_map, hcheck _ d.txn.target h]
    | pollSlot | readSlot =>
      simp only [hpolled]
      split_ifs <;> rfl
    | probe => rfl
  | urgent r l =>
    refine ⟨?_, hblocks _ _ h⟩
    simp only [Candidate.turnedAway]
    rw [Option.isNone_map, Option.isNone_map, hcheck _ r.station h]
  | normal r l =>
    refine ⟨?_, hblocks _ _ h⟩
    simp only [Candidate.turnedAway]
    rw [Option.isNone_map, Option.isNone_map, hcheck _ r.station h]
  | offer o => exact ⟨rfl, hblocks (some o.station) none h⟩

/-- What is offered names a station in line work (R98, R100). -/
theorem offer_active {o : Offer} (h : s.offer = some o) : (s.station o.station).state.active = true := by
  have hpolled {st : StationState} (h : st.polled = true) : st.active = true := by
    cases st <;> simp_all [StationState.polled, StationState.active]
  have hsought {st : StationState} (h : st.sought = true) : st.active = true := by
    cases st <;> simp_all [StationState.sought, StationState.active]
  unfold State.offer at h
  split at h
  · split_ifs at h with hq
    simp only [Bool.and_eq_true, slotQualifies_iff] at hq
    obtain ⟨-, x, hx, -, hstate⟩ := hq
    rw [hx] at h
    obtain rfl := Option.some.inj h
    exact hpolled hstate
  · split_ifs at h with hq
    rw [probeQualifies_iff] at hq
    obtain ⟨i, hi, hstate⟩ := hq
    rw [hi] at h
    obtain rfl := Option.some.inj h
    exact hsought hstate
  · cases h
  · cases h

/-- A candidate names no station that is out of line work and that no transaction targets. -/
theorem candidate_target_ne {c : Candidate} {i : Fin 32} (hc : s.candidate = some c)
    (h : s.writable i) : c.target ≠ some i := by
  intro htarget
  obtain ⟨hinactive, huntargeted⟩ := h
  have hnot : ¬s.targeted i = true := by simp [huntargeted]
  rw [targeted_iff] at hnot
  rcases candidate_cases hc with ⟨d, rfl, hd⟩ | ⟨r, l, rfl, hq⟩ | ⟨r, l, rfl, hq⟩ | ⟨o, rfl, ho⟩
  · exact hnot (.inr (.inr (.inr ⟨d, hd, htarget⟩)))
  · exact hnot (.inl ⟨r, by rw [hq]; exact List.mem_cons_self, htarget⟩)
  · exact hnot (.inr (.inl ⟨r, by rw [hq]; exact List.mem_cons_self, htarget⟩))
  · have hactive := offer_active ho
    rw [Option.some.inj (htarget : some o.station = some i), hinactive] at hactive
    cases hactive

/-- An entry that nothing targets may be replaced, from out of line work to out of it. -/
theorem settled_of_untargeted {i : Fin 32} (hs : s.Settled) (h : s.writable i)
    (hnew : (t.station i).state.active = false) (hother : ∀ j, j ≠ i → t.station j = s.station j)
    (hsame : t.cu = s.cu ∧ t.le = s.le ∧ t.li = s.li ∧ t.ru = s.ru ∧ t.pollRun = s.pollRun ∧
      t.fs = s.fs) : t.Settled := by
  obtain ⟨hcu, hle, hli, hru, hrun, hfs⟩ := hsame
  have hidle {st : StationState} (h : st.active = false) : st.polled = false ∧ st.sought = false := by
    cases st <;> simp_all [StationState.polled, StationState.sought, StationState.active]
  have hserved (j : Fin 32) : (t.station j).state.polled = (s.station j).state.polled ∧
      (t.station j).state.sought = (s.station j).state.sought := by
    by_cases hj : j = i
    · rw [hj]
      obtain ⟨hp, hq⟩ := hidle hnew
      obtain ⟨hp', hq'⟩ := hidle h.1
      rw [hp, hq, hp', hq']
      exact ⟨rfl, rfl⟩
    · rw [hother j hj]
      exact ⟨rfl, rfl⟩
  have hslot (n : Nat) : t.slotQualifies n = s.slotQualifies n := by
    unfold State.slotQualifies
    rw [hcu]
    split <;> simp only [(hserved _).1]
  have hprobe (n : Nat) : t.probeQualifies n = s.probeQualifies n := by
    unfold State.probeQualifies
    rw [hcu]
    split <;> simp only [(hserved _).2]
  have hoffer : t.offer = s.offer := by
    unfold State.offer
    rw [hcu, hslot, hprobe]
  have hacts : t.arbiterActs = s.arbiterActs := by rw [State.arbiterActs, hle, hli]; rfl
  have hcandidate : t.candidate = s.candidate := by
    have hnormal : t.normalOrOffer = s.normalOrOffer := by
      rw [State.normalOrOffer, State.shareReached, State.normalHead, hle, hru, hrun, hoffer]; rfl
    rw [State.candidate, State.oldestExpired, hle, hru, hnormal]; rfl
  obtain ⟨hformed, hrest⟩ := hs
  refine ⟨?_, fun ha => ?_⟩
  · rw [State.OfferFormed, hcu, hoffer]
    exact hformed
  · rw [hcandidate]
    refine (hrest (hacts ▸ ha)).imp_right fun hwait => ?_
    rw [bufferWait_iff] at hwait ⊢
    obtain ⟨-, c, hc, hnone, hfree⟩ := hwait
    obtain ⟨haway, hneed⟩ := candidate_congr (s := s) (t := t) c fun j hj =>
      hother j fun hji => candidate_target_ne hc h (hji ▸ hj)
    refine ⟨ha, c, hcandidate.trans hc, haway.trans hnone, ?_⟩
    rw [hneed, State.freeCount, hfs]
    exact hfree
end

theorem Lawful.of_aside {s t : State} (hsame : SameAccounts s t) (hkept : FieldsKept s t)
    (hsettled : s.Settled → t.Settled) (hpending : t.pending = s.pending) : Lawful s t :=
  ⟨(Move.aside hsame hkept).moves, hsettled, hpending⟩

theorem Lawful.of_clear {s t : State} (hclear : Cleared t) (hkept : FieldsKept s t)
    (hsettled : t.Settled) (hpending : t.pending = s.pending) : Lawful s t :=
  ⟨(Move.clear hclear hkept).moves, fun _ => hsettled, hpending⟩

section
variable (s : State)

theorem lawful_storeStation (i : Fin 32) {staged : Station} (h : s.stationRefusal i staged = none) :
    Lawful s (storeStation i staged s) := by
  obtain ⟨hwritable, -, -⟩ := stationRefusal_none h
  rw [storeStation_eq, setStation_note]
  refine .of_aside ⟨rfl, rfl, rfl, rfl, rfl, rfl, rfl, rfl, rfl, rfl, rfl⟩
    ⟨id, id, id, fun hn => ?_, id, storeStation_stations h rfl⟩ (fun hs => ?_) rfl
  · show (List.map Notice.station (if _ then _ else _)).Nodup
    split_ifs
    · exact hn
    · exact notedIn_nodup hn _ _ _ _
  · refine settled_of_untargeted hs hwritable ?_ (fun j hj => ?_) ⟨rfl, rfl, rfl, rfl, rfl, rfl⟩
    · show (Vector.get (s.st.entries.set i _) i).state.active = false
      rw [vector_get_set, if_pos rfl]
      exact stored_inactive _ _
    · show Vector.get (s.st.entries.set i _) j = _
      rw [vector_get_set, if_neg hj]
      rfl

theorem lawful_writeStation (i : Fin 32) : Lawful s (writeStation i s).1 := by
  unfold writeStation
  simp only
  split
  · exact .refl s
  · exact lawful_storeStation s i (by assumption)

/-- A bank that is not the active one may be replaced. -/
theorem lawful_setBank (name : BankName) (x : Bank) (h : s.cu.active ≠ name) :
    Lawful s (s.setBank name x) := by
  have hbank : (s.cu.setBank name x).activeBank = s.cu.activeBank := by
    cases name <;> cases hactive : s.cu.active <;>
      simp_all [CycleUnit.setBank, CycleUnit.activeBank, CycleUnit.bank]
  have hrest : (s.cu.setBank name x).state = s.cu.state ∧
      (s.cu.setBank name x).pointer = s.cu.pointer ∧
      (s.cu.setBank name x).probeList = s.cu.probeList ∧
      (s.cu.setBank name x).probePos = s.cu.probePos := by
    cases name <;> exact ⟨rfl, rfl, rfl, rfl⟩
  obtain ⟨hstate, hpointer, hlist, hpos⟩ := hrest
  refine lawful_cu s _ hstate ?_
  let t : State := { s with cu := s.cu.setBank name x }
  have hslot (n : Nat) : t.slotQualifies n = s.slotQualifies n := by
    unfold State.slotQualifies
    rw [show t.cu.activeBank = s.cu.activeBank from hbank]
    rfl
  have hprobe (n : Nat) : t.probeQualifies n = s.probeQualifies n := by
    unfold State.probeQualifies
    rw [show t.cu.probeList = s.cu.probeList from hlist]
    rfl
  show t.offer = s.offer
  unfold State.offer
  rw [show t.cu.state = s.cu.state from hstate, show t.cu.pointer = s.cu.pointer from hpointer,
    show t.cu.activeBank = s.cu.activeBank from hbank,
    show t.cu.probeList = s.cu.probeList from hlist, show t.cu.probePos = s.cu.probePos from hpos,
    hslot, hprobe]

theorem lawful_writeSlot (name : BankName) (n : Fin 64) : Lawful s (writeSlot name n s).1 := by
  unfold writeSlot
  simp only
  split
  · exact .refl s
  · split
    · exact lawful_setBank s name _ (by assumption)
    · exact .refl s

theorem lawful_writeLength (name : BankName) : Lawful s (writeLength name s).1 := by
  unfold writeLength
  simp only
  split
  · exact .refl s
  · split
    · exact .refl s
    · exact lawful_setBank s name _ (by assumption)

theorem storeParams_frame (p : LineParams) :
    ∃ l, storeParams p s = { s with li := l, le := { s.le with params := p } } := ⟨_, rfl⟩

/-- A divisor of 12 bits lies in its range. -/
theorem inRange_divisor (p : LineParams) {w : Word} (h : p.inRange w = true) :
    p.inRange (p.divisor.setWidth 16) = true := by
  rw [inRange_iff] at h ⊢
  refine ⟨?_, h.2⟩
  have := p.divisor.isLt
  rw [BitVec.toNat_setWidth]
  omega

theorem lawful_writeParams : Lawful s (writeParams s).1 := by
  unfold writeParams
  simp only
  split
  · exact .refl s
  · rename_i hstate
    split
    · rename_i hrange
      obtain ⟨l, heq⟩ := storeParams_frame s (LineParams.staged s.bi.image)
      rw [heq]
      refine .of_aside ⟨rfl, rfl, rfl, rfl, rfl, rfl, rfl, rfl, rfl, rfl, rfl⟩
        ⟨id, id, fun _ => inRange_divisor _ hrange, id, id, fun hs ha => ⟨hs, ha⟩⟩
        (fun hs => State.OfferFormed.settled hs.1 (arbiterActs_of_state ?_)) rfl
      · show s.le.state ≠ .idle
        rw [not_not.mp hstate]
        decide
    · exact .refl s

theorem lawful_writeRoute (n : Fin 12) : Lawful s (writeRoute n s).1 := by
  unfold writeRoute
  simp only
  split
  · split
    · exact lawful_eu s _ id
    · exact .refl s
  · exact .refl s

theorem lawful_tabRead : Lawful s (tabRead s).1 := by
  unfold tabRead
  split
  · exact .refl s
  · exact lawful_bi s _

theorem lawful_tabWrite : Lawful s (tabWrite s).1 := by
  unfold tabWrite
  split
  · exact .refl s
  · exact lawful_writeStation s _
  · exact lawful_writeSlot s _ _
  · exact lawful_writeLength s _
  · exact lawful_writeParams s
  · exact .refl s
  · exact lawful_writeRoute s _
  · exact .refl s

/-! ## Resets and the clock -/

/-- A part that is STOPPED and HALTED has nothing to do. -/
theorem settled_of_stopped {t : State} (hstate : t.le.state = .stopped) (hcu : t.cu.state = .halted) :
    t.Settled := by
  refine State.OfferFormed.settled ?_ (arbiterActs_of_state (by rw [hstate]; decide))
  rintro (h | h) <;> rw [hcu] at h <;> cases h

theorem Station.kept_softReset (e : Station) (cut : Bool) : e.Kept ((e.cutToggle cut).softReset) := by
  have hcut : e.Kept (e.cutToggle cut) := by
    unfold Station.cutToggle
    split
    · refine .of_unjudged rfl rfl rfl rfl rfl rfl fun h => ?_
      rw [h]
      rfl
    · exact .refl e
  refine hcut.trans ?_
  unfold Station.softReset
  split
  · rename_i h
    exact .of_configured h rfl rfl rfl rfl rfl fun hpos _ => by
      simpa [Station.failCountFits] using failLimit_pos hpos
  · exact .refl _

theorem softReset_entries : ∃ v : Vector Station 32,
    (softReset s).1.st = { entries := v, changes := [] } ∧
      ∀ i, v.get i = ((s.station i).cutToggle s.li.cutIsCertain).softReset :=
  ⟨_, rfl, fun i => vector_get_ofFn _ i⟩

theorem lawful_softReset : Lawful s (softReset s).1 := by
  obtain ⟨v, heq, hv⟩ := softReset_entries s
  have hstation (i : Fin 32) : (softReset s).1.station i =
      ((s.station i).cutToggle s.li.cutIsCertain).softReset := by
    rw [State.station, heq]
    exact hv i
  refine .of_clear ⟨rfl, rfl, rfl, rfl, rfl, rfl, rfl, rfl, rfl, rfl, rfl⟩
    ⟨id, fun _ => BitVec.zero_and, id, fun _ => ?_, fun _ => Nat.zero_le _,
      stations_kept fun i => ?_⟩ (settled_of_stopped rfl rfl) rfl
  · rw [State.NoticesDistinct, heq]
    exact List.nodup_nil
  · rw [hstation]
    exact Station.kept_softReset _ _

theorem stationsFit_reset {t : State} (h : t.st = .reset) : t.StationsFit ∧ t.AddressesDistinct := by
  have hstation (i : Fin 32) : t.station i = Station.reset := by
    rw [State.station, h]
    exact station_reset i
  refine ⟨fun i => ?_, fun i j hi => ?_⟩
  · rw [hstation]
    exact ⟨rfl, rfl⟩
  · rw [hstation] at hi
    exact absurd rfl hi

theorem lawful_hardReset (powerOn : Bool) : Lawful s (hardReset powerOn s) := by
  refine .of_clear ⟨rfl, rfl, rfl, rfl, rfl, rfl, rfl, rfl, rfl, rfl, rfl⟩
    ⟨fun h => ?_, fun _ => BitVec.zero_and, fun _ => rfl, fun _ => List.nodup_nil,
      fun _ => Nat.zero_le _, fun _ _ => stationsFit_reset rfl⟩ (settled_of_stopped rfl rfl) rfl
  cases powerOn with
  | true => rfl
  | false => exact h

theorem lawful_resetRelease (held : Bool) : Lawful s (resetRelease held s) := by
  unfold resetRelease
  split
  · exact lawful_pins s _
  · exact .refl s

theorem lawful_clockResume : Lawful s (clockResume s) :=
  (lawful_pins s _).trans (effect_startIfElapsed _).lawful

/-! ## Registers (section 10.2) -/

theorem lawful_dportWrite (v : Byte) : Lawful s (dportWrite v s) := by
  unfold dportWrite
  split
  · split
    · rename_i h
      exact lawful_staging s _ fun _ => by
        rw [List.length_append]
        exact h
    · exact lawful_commandError s
  all_goals exact lawful_commandError s

theorem lawful_dportRead : Lawful s (dportRead s).2 := by
  unfold dportRead
  split
  · rename_i p r hcursor
    split
    · exact lawful_commandError s
    · rename_i hr
      exact (Move.readCompletion p r hcursor hr).lawful (.of_store s _ rfl) rfl
  · rename_i i p r hcursor
    split
    · exact lawful_commandError s
    · rename_i hr
      exact (Move.readSnapshot i p r hcursor hr).lawful (.of_store s _ rfl) rfl
  all_goals exact lawful_commandError s

theorem lawful_registerRead (offset : Fin 32) : Lawful s (registerRead offset s).2 := by
  unfold registerRead
  split
  · exact lawful_dportRead s
  · split
    · exact lawful_tb s _
    · exact .refl s

/-- Clearing latches sets none. -/
theorem latches_and {v m : BitVec 12} (h : v &&& ~~~occurrenceMask = 0) :
    (v &&& m) &&& ~~~occurrenceMask = 0 := by
  rw [BitVec.and_assoc, BitVec.and_comm m, ← BitVec.and_assoc, h]
  exact BitVec.zero_and

theorem lawful_evLatchWrite (v : Word) : Lawful s (evLatchWrite v s) := lawful_eu s _ latches_and

theorem lawful_registerWrite (offset : Fin 32) (v : Word) : Lawful s (registerWrite offset v s) := by
  unfold registerWrite
  split
  · exact lawful_dportWrite s _
  · exact lawful_staging s _ id
  · exact lawful_staging s _ id
  · exact lawful_staging s _ id
  · exact lawful_evLatchWrite s v
  · exact lawful_eu s _ id
  · exact lawful_bi s _
  · exact lawful_bi s _
  · exact lawful_bi s _
  · exact lawful_bi s _
  · exact lawful_bi s _
  · exact .refl s

theorem lawful_commandOf (code operand : Byte) : Lawful s (commandOf code operand s).1 := by
  have hif {p : Prop} [Decidable p] {f g : CommandOp} (hf : Lawful s (f s).1)
      (hg : Lawful s (g s).1) : Lawful s ((if p then f else g) s).1 := by
    split
    · exact hf
    · exact hg
  unfold commandOf
  refine hif (lawful_lineStart s) <| hif (lawful_lineStop s) <| hif (lawful_lineHalt s) <|
    hif (lawful_lineBreak s) <| hif (lawful_schedRun s) <| hif (lawful_schedHalt s) <|
    hif (lawful_schedSwap s) <| hif (lawful_stationCommand s (lawful_stnEnable s) operand) <|
    hif (lawful_stationCommand s (lawful_stnDisable s) operand) <| hif (lawful_chgPop s) <|
    hif (lawful_rqClear s) <| hif (lawful_rqSubmit s) <| hif (lawful_rqCancel s) <|
    hif (lawful_rqFlush s operand) <| hif (lawful_cpOpen s) <| hif (lawful_cpRetire s) <|
    hif (lawful_stationCommand s (lawful_snapPin s) operand) <|
    hif (lawful_stationCommand s (lawful_snapUnpin s) operand) <|
    hif (lawful_stationCommand s (lawful_snapOpen s) operand) <| hif (lawful_tabRead s) <|
    hif (lawful_tabWrite s) <| hif (lawful_tb s _) <| hif (lawful_softReset s) (.refl s)

theorem lawful_busWrite (offset : Fin 32) (v : Word) : Lawful s (busWrite offset v s) := by
  unfold busWrite
  split
  · exact lawful_command s _ (lawful_commandOf s _ _)
  · exact lawful_hostWrite s (lawful_registerWrite s offset v)

theorem lawful_busRead (offset : Fin 32) : Lawful s (busRead offset s) :=
  lawful_hostRead s (lawful_registerRead s offset)

/-! ## Counted time -/

theorem lawful_tick : Lawful s (tick s) := (lawful_tb s _).trans (effect_tick s).lawful

theorem lawful_tickPeriod : Lawful s (tickPeriod s) := by
  unfold tickPeriod
  split
  · exact lawful_tick s
  · exact lawful_tb s _

theorem lawful_samplePeriod : Lawful s (samplePeriod s) :=
  (lawful_sampleLeft s _).trans (effect_samplePeriod s).lawful

theorem lawful_refClock : Lawful s (refClock s) := by
  unfold refClock
  simp only
  split
  · refine .trans ?_ (lawful_lineIn _ _)
    split
    · split
      · exact ((effect_choose s).lawful.trans (lawful_tickPeriod _)).trans (lawful_samplePeriod _)
      · exact ((effect_choose s).lawful.trans (lawful_samplePeriod _)).trans (lawful_tickPeriod _)
    · exact (lawful_samplePeriod s).trans (lawful_tickPeriod _)
  · exact .refl s

/-! ## Every row, and every step -/

/-- Every row answers a next state, by a lawful change. -/
theorem exec_lawful (c : Instr) : ∃ t, exec c s = .next t ∧ Lawful s t := by
  cases c with
  | lineStart => exact ⟨_, rfl, lawful_command s _ (lawful_lineStart s)⟩
  | lineStop => exact ⟨_, rfl, lawful_command s _ (lawful_lineStop s)⟩
  | lineHalt => exact ⟨_, rfl, lawful_command s _ (lawful_lineHalt s)⟩
  | lineBreak => exact ⟨_, rfl, lawful_command s _ (lawful_lineBreak s)⟩
  | schedRun => exact ⟨_, rfl, lawful_command s _ (lawful_schedRun s)⟩
  | schedHalt => exact ⟨_, rfl, lawful_command s _ (lawful_schedHalt s)⟩
  | schedSwap => exact ⟨_, rfl, lawful_command s _ (lawful_schedSwap s)⟩
  | stnEnable o =>
    exact ⟨_, rfl, lawful_command s _ (lawful_stationCommand s (lawful_stnEnable s) o)⟩
  | stnDisable o =>
    exact ⟨_, rfl, lawful_command s _ (lawful_stationCommand s (lawful_stnDisable s) o)⟩
  | chgPop => exact ⟨_, rfl, lawful_command s _ (lawful_chgPop s)⟩
  | rqClear => exact ⟨_, rfl, lawful_command s _ (lawful_rqClear s)⟩
  | rqSubmit => exact ⟨_, rfl, lawful_command s _ (lawful_rqSubmit s)⟩
  | rqCancel => exact ⟨_, rfl, lawful_command s _ (lawful_rqCancel s)⟩
  | rqFlushUrgent => exact ⟨_, rfl, lawful_command s _ (lawful_rqFlush s 1)⟩
  | rqFlushNormal => exact ⟨_, rfl, lawful_command s _ (lawful_rqFlush s 2)⟩
  | rqFlushAll => exact ⟨_, rfl, lawful_command s _ (lawful_rqFlush s 3)⟩
  | rqFlushBadOperand o => exact ⟨_, rfl, lawful_command s _ (lawful_rqFlush s o)⟩
  | cpOpen => exact ⟨_, rfl, lawful_command s _ (lawful_cpOpen s)⟩
  | cpRetire => exact ⟨_, rfl, lawful_command s _ (lawful_cpRetire s)⟩
  | snapPin o => exact ⟨_, rfl, lawful_command s _ (lawful_stationCommand s (lawful_snapPin s) o)⟩
  | snapUnpin o =>
    exact ⟨_, rfl, lawful_command s _ (lawful_stationCommand s (lawful_snapUnpin s) o)⟩
  | snapOpen o => exact ⟨_, rfl, lawful_command s _ (lawful_stationCommand s (lawful_snapOpen s) o)⟩
  | tabReadStation | tabReadSchedule | tabReadLineParameters | tabReadSnapshot | tabReadRoute
  | tabReadChangeQueueHead | tabReadNoEntry =>
    exact ⟨_, rfl, lawful_command s _ (lawful_tabRead s)⟩
  | tabWriteStation | tabWriteSchedule | tabWriteLineParameters | tabWriteSnapshot | tabWriteRoute
  | tabWriteChangeQueueHead | tabWriteNoEntry =>
    exact ⟨_, rfl, lawful_command s _ (lawful_tabWrite s)⟩
  | tbClear => exact ⟨_, rfl, lawful_command s _ (lawful_tb s _)⟩
  | softReset => exact ⟨_, rfl, lawful_command s _ (lawful_softReset s)⟩
  | unknownCommand code o => exact ⟨_, rfl, lawful_command s _ (lawful_commandOf s code o)⟩
  | dportWrite v => exact ⟨_, rfl, lawful_busWrite s 3 v⟩
  | dportRead => exact ⟨_, rfl, lawful_busRead s 3⟩
  | tbLoRead => exact ⟨_, rfl, lawful_busRead s 16⟩
  | evLatchWrite v => exact ⟨_, rfl, lawful_busWrite s 18 v⟩
  | evEnableWrite v => exact ⟨_, rfl, lawful_busWrite s 19 v⟩
  | rqSelWrite v => exact ⟨_, rfl, lawful_busWrite s 5 v⟩
  | rqTagWrite v => exact ⟨_, rfl, lawful_busWrite s 6 v⟩
  | rqOvrWrite v => exact ⟨_, rfl, lawful_busWrite s 7 v⟩
  | tabSelWrite v => exact ⟨_, rfl, lawful_busWrite s 21 v⟩
  | tabWWrite n v => exact ⟨_, rfl, lawful_hostWrite s (lawful_bi s _)⟩
  | registerWriteIgnored n v => exact ⟨_, rfl, lawful_busWrite s n v⟩
  | hardReset powerOn => exact ⟨_, rfl, lawful_hardReset s powerOn⟩
  | resetRelease held => exact ⟨_, rfl, lawful_resetRelease s held⟩
  | clockStop => exact ⟨_, rfl, lawful_pins s _⟩
  | clockResume => exact ⟨_, rfl, lawful_clockResume s⟩
  | tick => exact ⟨_, rfl, lawful_timed s (lawful_tick s)⟩
  | holdoffExpiry place => exact ⟨_, rfl, lawful_timed s (effect_holdoffEvent s place).lawful⟩
  | periodExpiry => exact ⟨_, rfl, lawful_timed s (effect_periodEvent s).lawful⟩
  | nextTickCycleStart => exact ⟨_, rfl, lawful_timed s (effect_nextTickEvent s).lawful⟩
  | quietReport => exact ⟨_, rfl, lawful_timed s (effect_quietEvent s).lawful⟩
  | activeReport => exact ⟨_, rfl, lawful_timed s (effect_activeEvent s).lawful⟩
  | replyWindowExpiry => exact ⟨_, rfl, lawful_timed s (effect_windowEvent s).lawful⟩
  | gapExpiry => exact ⟨_, rfl, lawful_timed s (effect_gapEvent s).lawful⟩
  | startReport noise => exact ⟨_, rfl, lawful_timed s (effect_startEvent s noise).lawful⟩
  | characterReport _ _ _ _ => exact ⟨_, rfl, lawful_timed s (effect_characterEvent s _).lawful⟩
  | breakReport => exact ⟨_, rfl, lawful_timed s (effect_breakEvent s).lawful⟩
  | firstStartReport => exact ⟨_, rfl, lawful_timed s (effect_firstStartEvent s).lawful⟩
  | echoReport _ _ _ _ => exact ⟨_, rfl, lawful_timed s (effect_echoEvent s _).lawful⟩
  | releasedReport => exact ⟨_, rfl, lawful_timed s (effect_releasedEvent s).lawful⟩
  | breakLowEnd => exact ⟨_, rfl, lawful_timed s (effect_breakLowEvent s).lawful⟩
  | breakDoneReport => exact ⟨_, rfl, lawful_timed s (effect_breakDoneEvent s).lawful⟩
  | heldLowEnd => exact ⟨_, rfl, lawful_timed s (effect_heldLowEvent s).lawful⟩

/-- A command leaves its place in the queue. -/
theorem dequeue_lawful (l : List Instr) : Moves s { s with pending := l } ∧
    (s.Settled → ({ s with pending := l } : State).Settled) :=
  ⟨(Move.aside (s := s) (t := { s with pending := l })
      ⟨rfl, rfl, rfl, rfl, rfl, rfl, rfl, rfl, rfl, rfl, rfl⟩
      (.of_same rfl rfl rfl rfl rfl rfl)).moves,
    SameChoice.settled (.of_fields rfl rfl ⟨rfl, rfl, rfl, rfl, rfl⟩ id rfl rfl rfl)⟩

/-- Every step is a chain of moves, and leaves nothing undone that was not before. -/
theorem step_lawful {t : State} (h : step s = .next t) : Moves s t ∧ (s.Settled → t.Settled) := by
  unfold step at h
  split at h
  · obtain rfl := Host.Outcome.next.inj h
    exact ⟨(lawful_refClock s).moves, (lawful_refClock s).settled⟩
  · rename_i c rest _
    obtain ⟨u, hu, hlawful⟩ := exec_lawful { s with pending := rest } c
    obtain rfl := Host.Outcome.next.inj (hu.symm.trans h)
    obtain ⟨hmoves, hsettled⟩ := dequeue_lawful s rest
    exact ⟨hmoves.trans hlawful.moves, hlawful.settled ∘ hsettled⟩

/-- What every move keeps, every step keeps. -/
theorem step_keeps {P : State → Prop} (hmove : ∀ s t, Move s t → P s → P t) {t : State}
    (hs : P s) (h : step s = .next t) : P t := (step_lawful s h).1.keeps hmove hs
end

/-! ## Where nothing is in progress -/

section
variable {t : State} (h : Cleared t)
include h

theorem Cleared.transactionsWf : t.TransactionsWf := by
  have hdeferred : t.DeferredWf := by
    rw [State.DeferredWf, h.deferred, h.expired]
    exact ⟨Nat.zero_le _, List.nodup_nil, List.nodup_nil, fun i hi => absurd hi List.not_mem_nil,
      fun d hd => absurd hd List.not_mem_nil⟩
  exact .of_none h.current (by rw [h.state]; rfl) hdeferred

theorem Cleared.blocksAccounted : t.BlocksAccounted := by
  have hheld : t.fs.snapshots.toList.flatMap Snapshot.held = [] := by
    rw [h.snapshots, List.flatMap_eq_nil_iff]
    intro x hx
    obtain rfl : x = Snapshot.reset := by simpa using hx
    rfl
  have hqueue : t.cq.ring = [] := by rw [h.queue]; rfl
  rw [State.BlocksAccounted, State.allBlocks, hheld, h.free, h.urgent, h.normal, h.current, h.deferred,
    hqueue]
  simp only [Option.toList_none, List.flatMap_nil, List.append_nil]
  exact .refl _

theorem Cleared.slotsAccounted : t.SlotsAccounted := by
  have hqueue : t.cq.ring = [] ∧ t.cq.reserved = 0 := by rw [h.queue]; exact ⟨rfl, rfl⟩
  rw [State.SlotsAccounted, State.unposted, hqueue.1, hqueue.2, h.urgent, h.normal, h.current, h.deferred]
  simp

theorem Cleared.snapshotsFit : t.SnapshotsFit := by
  intro i
  rw [h.snapshot]
  exact ⟨nofun, nofun⟩

theorem Cleared.cursorFits : t.CursorFits := by
  rw [State.CursorFits, h.cursor]
  trivial

theorem Cleared.repliesFit : t.RepliesFit := by
  have hqueue : t.cq.ring = [] := by rw [h.queue]; rfl
  rw [State.repliesFit_iff, State.ChainsFit, State.CursorReads, h.current, hqueue, h.cursor]
  refine ⟨⟨fun x hx => ?_, fun r hr => absurd hr List.not_mem_nil, fun i x hx => ?_,
    fun i x hx => ?_⟩, fun p r hcursor => ?_, fun i p r hcursor => ?_⟩
  · cases hx
  · rw [h.snapshot] at hx; cases hx
  · rw [h.snapshot] at hx; cases hx
  · cases hcursor
  · cases hcursor
end

end Sys2Proof.Machine

namespace Sys2Proof.Proofs

open Sys2Proof.Machine

/-- Settles O3: every row is a lawful change. -/
theorem everyCommandIsTaken : Obligations.EveryCommandIsTaken := by
  unfold Obligations.EveryCommandIsTaken
  intro c s
  obtain ⟨t, ht, hlawful⟩ := exec_lawful s c
  exact ⟨t, ht, hlawful.pending⟩

/-- Settles O54, move by move. -/
theorem transactionsStayWellFormed : Obligations.TransactionsStayWellFormed := by
  unfold Obligations.TransactionsStayWellFormed
  intro s t hwf hmark h
  exact ⟨step_keeps s (fun _ _ => Move.transactionsWf) hwf h,
    step_keeps s (fun _ _ => Move.stopMarkFits) hmark h⟩

/-- Settles O52, move by move, with the transactions well formed between the moves. -/
theorem blocksStayAccounted : Obligations.BlocksStayAccounted := by
  unfold Obligations.BlocksStayAccounted
  intro s t hwf hblocks h
  exact (step_keeps s (P := fun s => s.TransactionsWf ∧ s.BlocksAccounted)
    (fun _ _ hm ⟨hwf, hb⟩ => ⟨hm.transactionsWf hwf, hm.blocksAccounted hwf hb⟩) ⟨hwf, hblocks⟩ h).2

/-- Settles O53, move by move, with the transactions well formed between the moves. -/
theorem slotsStayAccounted : Obligations.SlotsStayAccounted := by
  unfold Obligations.SlotsStayAccounted
  intro s t hwf hslots h
  exact (step_keeps s (P := fun s => s.TransactionsWf ∧ s.SlotsAccounted)
    (fun _ _ hm ⟨hwf, hb⟩ => ⟨hm.transactionsWf hwf, hm.slotsAccounted hwf hb⟩) ⟨hwf, hslots⟩ h).2

/-- Settles O55: every move keeps each entry. -/
theorem stationsStayFit : Obligations.StationsStayFit := by
  unfold Obligations.StationsStayFit
  intro s t hfit haddress h
  exact (step_lawful s h).1.fieldsKept.stations hfit haddress

/-- Settles O56, move by move. -/
theorem snapshotsAndCursorStayFit : Obligations.SnapshotsAndCursorStayFit := by
  unfold Obligations.SnapshotsAndCursorStayFit
  intro s t hsnapshots hcursor h
  exact step_keeps s (P := fun s => s.SnapshotsFit ∧ s.CursorFits)
    (fun _ _ hm ⟨hs, hc⟩ => hm.snapshotsAndCursor hs hc) ⟨hsnapshots, hcursor⟩ h

/-- Settles O57: the chains, and what the cursor reads of them, move by move. -/
theorem repliesStayReadable : Obligations.RepliesStayReadable := by
  unfold Obligations.RepliesStayReadable
  intro s t hsnapshots hcursor hreplies h
  rw [State.repliesFit_iff] at hreplies ⊢
  obtain ⟨hchains, hreads⟩ := hreplies
  have hkept := step_keeps s
    (P := fun s => (s.SnapshotsFit ∧ s.CursorFits) ∧ s.ChainsFit ∧ s.CursorReads)
    (fun _ _ hm ⟨⟨hs, hc⟩, hch, hr⟩ =>
      ⟨hm.snapshotsAndCursor hs hc, hm.chainsFit hch, hm.cursorReads hc hch hr⟩)
    ⟨⟨hsnapshots, hcursor⟩, hchains, hreads⟩ h
  exact hkept.2

/-- Settles O58: every move keeps the invariants of a single field. -/
theorem smallInvariantsKept : Obligations.SmallInvariantsKept := by
  unfold Obligations.SmallInvariantsKept
  intro s t h
  obtain ⟨hmemory, hlatches, hparams, hnotices, hstaging, -⟩ := (step_lawful s h).1.fieldsKept
  exact ⟨hmemory, hlatches, hparams, hnotices, hstaging⟩

/-- Settles O59: what changes the choice ends with a settling. -/
theorem nothingIsLeftUndone : Obligations.NothingIsLeftUndone := by
  unfold Obligations.NothingIsLeftUndone
  intro s t hs h
  exact (step_lawful s h).2 hs

/-- Settles O60: nothing is in progress, and every block is free. -/
theorem invariantsAtReset : Obligations.InvariantsAtReset := by
  unfold Obligations.InvariantsAtReset
  have h : Cleared State.reset := ⟨rfl, rfl, rfl, rfl, rfl, rfl, rfl, rfl, rfl, rfl, rfl⟩
  obtain ⟨hfit, haddress⟩ := stationsFit_reset (t := State.reset) rfl
  exact ⟨h.transactionsWf, nofun, h.blocksAccounted, h.slotsAccounted, hfit, haddress, h.snapshotsFit,
    h.cursorFits, rfl, BitVec.zero_and, rfl, List.nodup_nil, h.repliesFit, Nat.zero_le _,
    settled_of_stopped rfl rfl⟩

end Sys2Proof.Proofs

/-! PROOF. The front of the queue, the schedule commands (R94, R105, R106), STN_ENABLE and STN_DISABLE (R79,
R80), LINE_STOP and LINE_BREAK (R59, R62), the time base's accesses (R164, R165) and the check register
(R20). -/

namespace Sys2Proof.Machine

/-- A write of CMD that is taken answers what the command's operation gives (R179). -/
theorem command_answers {s t : State} {code : Byte} {op : CommandOp} {r : ResultCode} (h : s.Taken)
    (hop : op s = (t, r)) :
    (Host.Outcome.next (hostCommand code op s) : StepOutcome) = .next (t.answer code r) := by
  rw [hostCommand_taken code op s h, hop]

section
variable {s : State}

/-! ## SCHED_RUN, SCHED_HALT and SCHED_SWAP -/

theorem runSchedule_eq (s : State) :
    runSchedule s =
      ({ s with
        cu := { s.cu with
          active := if s.cu.swapPending then s.cu.active.other else s.cu.active
          swapPending := false
          startPending := false
          timer := if s.le.params.period = 0 then none else some s.le.params.period } }
        : State).cycleStart := by
  obtain ⟨li, le, st, ⟨bankA, bankB, active, pending, state, pointer, list, pos, timer, start, run⟩,
    rest⟩ := s
  cases pending <;> rfl

theorem schedRun_of_halted (h : s.cu.state = .halted) : schedRun s = ((runSchedule s).settle, .done) :=
  if_pos h

theorem schedRun_of_running (h : s.cu.state ≠ .halted) : schedRun s = (s, .refusedState) := if_neg h

theorem schedHalt_of_halted (h : s.cu.state = .halted) : schedHalt s = (s, .done) := if_pos h

theorem schedHalt_of_running (h : s.cu.state ≠ .halted) :
    schedHalt s = ((haltSchedule s).settle, .done) := if_neg h

theorem schedSwap_of_halted (h : s.cu.state = .halted) : schedSwap s = (s.exchangeBanks, .done) :=
  if_pos h

theorem schedSwap_of_running (h : s.cu.state ≠ .halted) (hswap : s.cu.swapPending = false) :
    schedSwap s = ({ s with cu := { s.cu with swapPending := true } }, .done) := by
  simp [schedSwap, h, hswap]

theorem schedSwap_of_pending (h : s.cu.state ≠ .halted) (hswap : s.cu.swapPending = true) :
    schedSwap s = (s, .already) := by
  simp [schedSwap, h, hswap]

/-! ## STN_ENABLE and STN_DISABLE -/

section
variable {i : Fin 32}

theorem enableStation_eq (i : Fin 32) (s : State) :
    enableStation i s =
      { s with
        st :=
          { entries := s.st.entries.set i
              { s.station i with
                state := .probing, failCount := 0, countdown := 0, lastReply := none,
                lastClass := none }
            changes := notedIn s.st.changes i .disabled .probing s.tb.counter } } :=
  setStation_note _ .disabled .probing

theorem disableStation_eq (h : (s.station i).state ≠ .disabled) :
    disableStation i s =
      { s with
        st :=
          { entries := s.st.entries.set i { s.station i with state := .disabled }
            changes := notedIn s.st.changes i (s.station i).state .disabled s.tb.counter } } := by
  unfold disableStation
  simp only [setStation_note, if_neg h]

theorem stnEnable_of_disabled (h : (s.station i).state = .disabled) :
    stnEnable i s = ((enableStation i s).settle, .done) := by
  simp [stnEnable, h]

theorem stnEnable_of_unconfigured (h : (s.station i).state = .unconfigured) :
    stnEnable i s = (s, .refusedState) := by
  simp [stnEnable, h]

theorem stnEnable_of_active (hdisabled : (s.station i).state ≠ .disabled)
    (hunconfigured : (s.station i).state ≠ .unconfigured) : stnEnable i s = (s, .already) := by
  cases h : (s.station i).state <;> simp_all [stnEnable]

theorem stnDisable_of_disabled (h : (s.station i).state = .disabled) :
    stnDisable i s = (s, .already) := by
  simp [stnDisable, h]

theorem stnDisable_of_unconfigured (h : (s.station i).state = .unconfigured) :
    stnDisable i s = (s, .refusedState) := by
  simp [stnDisable, h]

theorem stnDisable_of_active (hdisabled : (s.station i).state ≠ .disabled)
    (hunconfigured : (s.station i).state ≠ .unconfigured) :
    stnDisable i s = ((disableStation i s).settle, .done) := by
  cases h : (s.station i).state <;> simp_all [stnDisable]

/-- A station command whose operand names station i, when it is taken (R179, R181). -/
theorem stationCommand_answers {t : State} {code : Byte} {op : Fin 32 → CommandOp} {r : ResultCode}
    (h : s.Taken) (hop : op i s = (t, r)) :
    (Host.Outcome.next (hostCommand code (stationCommand op (BitVec.ofNat 8 i.val)) s) : StepOutcome) =
      .next (t.answer code r) :=
  command_answers h ((stationCommand_index op i s).trans hop)
end

/-! ## LINE_STOP and LINE_BREAK -/

theorem lineStop_of_idle (h : s.le.state = .idle) : lineStop s = (s.enterStopped, .done) := by
  simp [lineStop, h]

theorem lineStop_of_stopped (h : s.le.state = .stopped) : lineStop s = (s, .done) := by
  simp [lineStop, h]

theorem lineStop_of_busy (hidle : s.le.state ≠ .idle) (hstopped : s.le.state ≠ .stopped) :
    lineStop s = ({ s with le := { s.le with stopMark := true } }, .done) := by
  cases h : s.le.state <;> simp_all [lineStop]

theorem lineBreak_taken (h : s.le.state = .idle ∨ s.le.state = .stopped) :
    lineBreak s = (orderBreak s, .done) := by
  rcases h with h | h <;> simp [lineBreak, h]

theorem lineBreak_of_busy (hidle : s.le.state ≠ .idle) (hstopped : s.le.state ≠ .stopped) :
    lineBreak s = (s, .refusedState) := by
  cases h : s.le.state <;> simp_all [lineBreak]

theorem breakOrder_of_released {l : LineInterface} (clock : Bool) (h : l.tx = .released) :
    l.breakOrder clock =
      { l with
        tx := .breakLow 0, breakWaiting := false, rx := .heldLow 0 [] false, oldRate := none,
        monitor := .active, quietTimer := if clock then 0 else l.quietTimer } := by
  simp [LineInterface.breakOrder, h, LineInterface.breakBegins, LineInterface.driverOrdered]

theorem breakOrder_waits {l : LineInterface} (clock : Bool) (h : l.tx ≠ .released) :
    l.breakOrder clock = { l with breakWaiting := true } := by
  cases htx : l.tx <;> simp_all [LineInterface.breakOrder]

end
end Sys2Proof.Machine

namespace Sys2Proof.Proofs
open Sys2Proof.Machine

/-- Settles O1. -/
theorem stepTakesFront : Obligations.StepTakesFront := fun _ _ _ => rfl

/-- Settles O11, by the cycle state. -/
theorem scheduleRunAndHalt : Obligations.ScheduleRunAndHalt := by
  unfold Obligations.ScheduleRunAndHalt
  intro s htaken
  refine ⟨fun hhalted => ?_, fun hrunning => command_answers htaken (schedRun_of_running hrunning),
    fun hrunning => command_answers htaken (schedHalt_of_running hrunning),
    fun hhalted => command_answers htaken (schedHalt_of_halted hhalted)⟩
  rw [← runSchedule_eq]
  exact command_answers htaken (schedRun_of_halted hhalted)

/-- Settles O12, by the cycle state and the swap-pending mark. -/
theorem schedSwap : Obligations.SchedSwap := by
  unfold Obligations.SchedSwap
  intro s htaken
  exact ⟨fun hhalted => command_answers htaken (schedSwap_of_halted hhalted),
    fun hrunning hswap => command_answers htaken (schedSwap_of_running hrunning hswap),
    fun hrunning hswap => command_answers htaken (schedSwap_of_pending hrunning hswap), rfl, rfl⟩

/-- Settles O14, by the station's state. -/
theorem stationEnableDisable : Obligations.StationEnableDisable := by
  unfold Obligations.StationEnableDisable
  intro s i htaken
  refine ⟨fun hdisabled => ?_, fun hunconfigured =>
      ⟨stationCommand_answers htaken (stnEnable_of_unconfigured hunconfigured),
        stationCommand_answers htaken (stnDisable_of_unconfigured hunconfigured)⟩,
    fun hdisabled hunconfigured =>
      ⟨stationCommand_answers htaken (stnEnable_of_active hdisabled hunconfigured), ?_⟩,
    fun hdisabled => stationCommand_answers htaken (stnDisable_of_disabled hdisabled)⟩
  · rw [← enableStation_eq]
    exact stationCommand_answers htaken (stnEnable_of_disabled hdisabled)
  · rw [← disableStation_eq hdisabled]
    exact stationCommand_answers htaken (stnDisable_of_active hdisabled hunconfigured)

/-- Settles O9, by the engine's state, and for LINE_BREAK by the transmitter. -/
theorem lineStopAndBreak : Obligations.LineStopAndBreak := by
  unfold Obligations.LineStopAndBreak
  intro s htaken
  refine ⟨fun hidle => command_answers htaken (lineStop_of_idle hidle),
    fun hstopped => command_answers htaken (lineStop_of_stopped hstopped),
    fun hidle hstopped => command_answers htaken (lineStop_of_busy hidle hstopped),
    fun hstate hreleased => ?_, fun hstate htx => ?_,
    fun hidle hstopped => command_answers htaken (lineBreak_of_busy hidle hstopped)⟩
  · rw [← breakOrder_of_released s.pins.clock hreleased]
    exact command_answers htaken (lineBreak_taken hstate)
  · rw [← breakOrder_waits s.pins.clock htx]
    exact command_answers htaken (lineBreak_taken hstate)

/-- Settles O29. -/
theorem timeBaseRows : Obligations.TimeBaseRows := by
  unfold Obligations.TimeBaseRows
  intro s htaken
  exact ⟨command_answers htaken rfl,
    congrArg Host.Outcome.next (hostRead_taken (registerRead 16) s htaken), rfl⟩

/-- Settles O40: a byte is fed bit by bit, bit 0 first. -/
theorem checkRegister : Obligations.CheckRegister := by
  unfold Obligations.CheckRegister
  refine ⟨fun r b => ?_, fun r v => rfl, by decide, by decide, by decide⟩
  unfold checkBit
  cases b <;> cases r.getLsbD 0 <;> rfl

end Sys2Proof.Proofs

/-! PROOF. The values after a hard reset (R16, R64, R89, R107, R120, R142, R161, R173, R175, R190). -/

namespace Sys2Proof.Machine

theorem vector_get_replicate {α : Type} {n : Nat} (a : α) (i : Fin n) :
    (Vector.replicate n a).get i = a := by
  simp [Vector.get]

theorem Chain.length_all : Chain.all.length = 128 := by simp [Chain.all]

theorem Chain.getElem?_all (k : Fin 128) : Chain.all[k.val]? = some k := by
  simp [Chain.all]

end Sys2Proof.Machine

namespace Sys2Proof.Proofs
open Sys2Proof.Machine

/-- Settles O5, block by block; a table that is filled with one entry holds it at every place. -/
theorem resetLeavesSpecValues : Obligations.ResetLeavesSpecValues := by
  unfold Obligations.ResetLeavesSpecValues
  refine ⟨⟨rfl, rfl, rfl, rfl, rfl, rfl, rfl⟩, ⟨rfl, rfl, rfl, rfl, rfl, rfl, rfl⟩,
    ⟨fun i => vector_get_replicate _ i, rfl, by decide⟩,
    ⟨rfl, rfl, rfl, rfl, rfl, rfl, rfl, rfl, rfl, rfl, rfl, rfl,
      fun n => ⟨vector_get_replicate _ n, vector_get_replicate _ n⟩⟩,
    ⟨rfl, rfl, rfl⟩, ⟨rfl, rfl, rfl, rfl, rfl, rfl, rfl, rfl⟩,
    ⟨Chain.length_all, Chain.getElem?_all, fun i => ?_, rfl, by decide⟩,
    ⟨rfl, rfl, rfl⟩, ⟨rfl, rfl, fun n => vector_get_replicate _ n, by decide, by decide,
      by decide, by decide, by decide, by decide⟩,
    ⟨by decide, by decide, fun n => vector_get_replicate _ n⟩⟩
  have h : State.reset.snapshot i = Snapshot.reset := vector_get_replicate _ i
  rw [h]
  exact ⟨rfl, rfl, rfl, rfl⟩

end Sys2Proof.Proofs

/-! PROOF. A period of the reference clock (R2, R163): what it leaves of the dividers and the time base, and
the order of what falls together at a sample (R3, R8, R14, R43, R44; log 8). -/

namespace Sys2Proof.Machine

/-! ## What a period leaves -/

/-- The divider's count after a period (R2). -/
def State.dividerNext (s : State) : Nat :=
  if s.li.sampleLeft = 0 then s.le.params.divisor.toNat else s.li.sampleLeft - 1

/-- The time base after a period (R163). -/
def TimeBase.next (tb : TimeBase) : TimeBase :=
  if Config.periodsPerTick ≤ tb.prescaler + 1 then
    { tb with prescaler := 0, counter := tb.counter + 1 }
  else { tb with prescaler := tb.prescaler + 1 }

theorem TimeBase.next_counts {tb : TimeBase} (h : tb.prescaler < 1599) :
    tb.next = { tb with prescaler := tb.prescaler + 1 } :=
  if_neg (show ¬1600 ≤ tb.prescaler + 1 by omega)

theorem TimeBase.next_ticks {tb : TimeBase} (h : 1599 ≤ tb.prescaler) :
    tb.next = { tb with prescaler := 0, counter := tb.counter + 1 } :=
  if_pos (show 1600 ≤ tb.prescaler + 1 by omega)

section
variable (s : State)

theorem samplePeriod_frame :
    SameFrame { s with li := { s.li with sampleLeft := s.dividerNext } } (samplePeriod s) :=
  (effect_samplePeriod s).path.frame

theorem tickPeriod_counts (h : s.tb.prescaler < 1599) :
    tickPeriod s = { s with tb := { s.tb with prescaler := s.tb.prescaler + 1 } } :=
  if_neg (show ¬1600 ≤ s.tb.prescaler + 1 by omega)

theorem tickPeriod_ticks (h : 1599 ≤ s.tb.prescaler) : tickPeriod s = tick s :=
  if_pos (show 1600 ≤ s.tb.prescaler + 1 by omega)

theorem tickPeriod_frame : SameFrame { s with tb := s.tb.next } (tickPeriod s) := by
  by_cases h : s.tb.prescaler < 1599
  · rw [tickPeriod_counts s h, TimeBase.next_counts h]
    exact .refl _
  · have hle : 1599 ≤ s.tb.prescaler := by omega
    rw [tickPeriod_ticks s hle, TimeBase.next_ticks hle]
    exact (effect_tick s).path.frame

/-- What a period leaves of the pins, the parameters, the time base, the divider and the queue. -/
structure PeriodFrame (t : State) : Prop where
  pins : t.pins = s.pins
  params : t.le.params = s.le.params
  timeBase : t.tb = s.tb.next
  sampleLeft : t.li.sampleLeft = s.dividerNext
  pending : t.pending = s.pending

theorem tick_after_sample_frame : PeriodFrame s (tickPeriod (samplePeriod s)) := by
  have hsample := samplePeriod_frame s
  have htick := tickPeriod_frame (samplePeriod s)
  exact ⟨htick.pins.trans hsample.pins, htick.params.trans hsample.params,
    htick.timeBase.trans (congrArg TimeBase.next hsample.timeBase),
    htick.sampleLeft.trans hsample.sampleLeft, htick.pending.trans hsample.pending⟩

theorem sample_after_tick_frame : PeriodFrame s (samplePeriod (tickPeriod s)) := by
  have htick := tickPeriod_frame s
  have hsample := samplePeriod_frame (tickPeriod s)
  have hdivider : (tickPeriod s).dividerNext = s.dividerNext := by
    unfold State.dividerNext
    rw [htick.sampleLeft, htick.params]
  exact ⟨hsample.pins.trans htick.pins, hsample.params.trans htick.params,
    hsample.timeBase.trans htick.timeBase, hsample.sampleLeft.trans hdivider,
    hsample.pending.trans htick.pending⟩

/-! ## The order of tick and sample -/

/-- A free choice between two orders takes one of them, and counts itself (log 8). -/
theorem choose_either (f g : State → State) :
    (if s.choose.1 then f s.choose.2 else g s.choose.2) = f { s with choice := s.choice + 1 } ∨
    (if s.choose.1 then f s.choose.2 else g s.choose.2) = g { s with choice := s.choice + 1 } := by
  cases h : s.choose.1 with
  | true => exact .inl rfl
  | false => exact .inr rfl

/-- A period passes for the other drivers of the line. -/
def State.linePassed (t : State) : State := { t with lineIn := nextLine t.lineIn }

theorem refClock_still (h : s.timeRuns = false) : refClock s = s := by
  simp [refClock, h]

theorem refClock_apart (h : s.timeRuns = true)
    (hapart : ¬(s.li.sampleLeft = 0 ∧ 1599 ≤ s.tb.prescaler)) :
    refClock s = (tickPeriod (samplePeriod s)).linePassed := by
  have hnot : ¬(decide (s.li.sampleLeft = 0) &&
      decide (Config.periodsPerTick ≤ s.tb.prescaler + 1)) = true := by
    simpa [Config.periodsPerTick] using hapart
  unfold refClock
  simp only [if_pos h, if_neg hnot]
  rfl

theorem refClock_together (h : s.timeRuns = true) (hleft : s.li.sampleLeft = 0)
    (hprescaler : 1599 ≤ s.tb.prescaler) :
    refClock s = (samplePeriod (tickPeriod { s with choice := s.choice + 1 })).linePassed ∨
    refClock s = (tickPeriod (samplePeriod { s with choice := s.choice + 1 })).linePassed := by
  have htogether : (decide (s.li.sampleLeft = 0) &&
      decide (Config.periodsPerTick ≤ s.tb.prescaler + 1)) = true := by
    simpa [Config.periodsPerTick] using ⟨hleft, hprescaler⟩
  unfold refClock
  simp only [if_pos h, if_pos htogether]
  exact (choose_either s (fun u => samplePeriod (tickPeriod u))
    fun u => tickPeriod (samplePeriod u)).imp (congrArg State.linePassed) (congrArg State.linePassed)

theorem refClock_frame (h : s.timeRuns = true) : PeriodFrame s (refClock s) := by
  by_cases htogether : s.li.sampleLeft = 0 ∧ 1599 ≤ s.tb.prescaler
  · rcases refClock_together s h htogether.1 htogether.2 with heq | heq <;> rw [heq]
    · obtain ⟨h1, h2, h3, h4, h5⟩ := sample_after_tick_frame { s with choice := s.choice + 1 }
      exact ⟨h1, h2, h3, h4, h5⟩
    · obtain ⟨h1, h2, h3, h4, h5⟩ := tick_after_sample_frame { s with choice := s.choice + 1 }
      exact ⟨h1, h2, h3, h4, h5⟩
  · rw [refClock_apart s h htogether]
    obtain ⟨h1, h2, h3, h4, h5⟩ := tick_after_sample_frame s
    exact ⟨h1, h2, h3, h4, h5⟩

/-! ## The two dividers (R2) -/

/-- The receiver's own divider, while there is one, counts the period. -/
def State.ownDivider (level : Bool) (t : State) : State :=
  match t.li.oldRate with
  | some r => oldRateSample level r t
  | none => t

theorem ownDivider_none {t : State} (level : Bool) (h : t.li.oldRate = none) :
    t.ownDivider level = t := by
  simp [State.ownDivider, h]

theorem ownDivider_counts {t : State} (level : Bool) {r : OldRate} (h : t.li.oldRate = some r)
    (hleft : r.left ≠ 0) :
    t.ownDivider level =
      { t with li := { t.li with oldRate := some { r with left := r.left - 1 } } } := by
  simp [State.ownDivider, h, oldRateSample, hleft]

theorem ownDivider_samples {t : State} (level : Bool) {r : OldRate} (h : t.li.oldRate = some r)
    (hleft : r.left = 0) :
    t.ownDivider level =
      rxSample level { t with li := { t.li with oldRate := some { r with left := r.divisor } } } := by
  simp [State.ownDivider, h, oldRateSample, hleft]

/-- At the divider's end the line is sampled: without the receiver while it has its own divider. -/
theorem samplePeriod_taken (h : s.li.sampleLeft = 0) :
    samplePeriod s =
      State.ownDivider s.lrx
        (if s.li.oldRate.isSome then
          sampleWithoutRx s.lrx { s with li := { s.li with sampleLeft := s.le.params.divisor.toNat } }
        else
          sampleWithRx s.lrx
            { s with li := { s.li with sampleLeft := s.le.params.divisor.toNat } }) := by
  unfold samplePeriod
  simp only [if_pos h]
  rfl

theorem samplePeriod_waits (h : s.li.sampleLeft ≠ 0) :
    samplePeriod s =
      State.ownDivider s.lrx { s with li := { s.li with sampleLeft := s.li.sampleLeft - 1 } } := by
  unfold samplePeriod
  simp only [if_neg h]
  rfl

theorem samplePeriod_withRx (hrate : s.li.oldRate = none) (h : s.li.sampleLeft = 0) :
    samplePeriod s =
      sampleWithRx s.lrx
        { s with li := { s.li with sampleLeft := s.le.params.divisor.toNat } } := by
  rw [samplePeriod_taken s h, if_neg (by simp [hrate])]
  exact ownDivider_none _ ((effect_sampleWithRx _ _).path.frame.oldRate hrate)

theorem samplePeriod_withoutRx (hrate : s.li.oldRate ≠ none) (h : s.li.sampleLeft = 0) :
    samplePeriod s =
      State.ownDivider s.lrx
        (sampleWithoutRx s.lrx
          { s with li := { s.li with sampleLeft := s.le.params.divisor.toNat } }) := by
  rw [samplePeriod_taken s h, if_pos (Option.isSome_iff_ne_none.mpr hrate)]

/-! ## The receive input (log 7) -/

theorem lrx_of_nil (h : s.lineIn = []) : s.lrx = s.li.ownLevel := by simp [State.lrx, h]

theorem lrx_of_cons {r : LineRun} {rest : List LineRun} (h : s.lineIn = r :: rest) :
    s.lrx = r.level.getD s.li.ownLevel := by simp [State.lrx, h]

/-! ## What falls together at a sample (log 8) -/

variable (level : Bool)

theorem lowBeforeExpiry_chosen
    (h : level = false ∧ s.lineTimerDue = true ∧ s.li.monitor = .quiet) :
    lowBeforeExpiry level s = { s with choice := s.choice + 1 } ∨
    lowBeforeExpiry level s =
      { s with choice := s.choice + 1, li := { s.li with monitor := .active, quietTimer := 0 } } := by
  have hlow : (!level && s.lineTimerDue && decide (s.li.monitor = .quiet)) = true := by
    simp [h]
  unfold lowBeforeExpiry
  rw [if_pos hlow]
  exact (choose_either s (fun t => { t with li := t.li.goActive }) id).symm

theorem lowBeforeExpiry_else
    (h : ¬(level = false ∧ s.lineTimerDue = true ∧ s.li.monitor = .quiet)) :
    lowBeforeExpiry level s = s := by
  have hlow : ¬(!level && s.lineTimerDue && decide (s.li.monitor = .quiet)) = true := by
    simpa [and_assoc] using h
  exact if_neg hlow

theorem lineSample_chosen (htakes : s.li.takesReceiver = true) (hdue : s.li.rx.reportDue = true) :
    lineSample level s = txSample level (receiveAndExpire level { s with choice := s.choice + 1 }) ∨
    lineSample level s = txThenRx level { s with choice := s.choice + 1 } := by
  unfold lineSample
  rw [if_pos (show (s.li.takesReceiver && s.li.rx.reportDue) = true by simp [htakes, hdue])]
  exact choose_either s (fun t => txSample level (receiveAndExpire level t)) (txThenRx level)

theorem lineSample_else (h : s.li.takesReceiver = false ∨ s.li.rx.reportDue = false) :
    lineSample level s = txThenRx level s :=
  if_neg (by rcases h with h | h <;> simp [h])

theorem receiveAndExpire_chosen (hdue : s.lineTimerDue = true) (hmay : s.li.rx.mayReport = true) :
    receiveAndExpire level s =
      rxSample level (expireLineTimers { s with choice := s.choice + 1 }) ∨
    receiveAndExpire level s =
      expireLineTimers (rxSample level { s with choice := s.choice + 1 }) := by
  unfold receiveAndExpire
  rw [if_pos (show (s.lineTimerDue && s.li.rx.mayReport) = true by simp [hdue, hmay])]
  exact choose_either s (fun t => rxSample level (expireLineTimers t))
    fun t => expireLineTimers (rxSample level t)

theorem receiveAndExpire_else (h : s.lineTimerDue = false ∨ s.li.rx.mayReport = false) :
    receiveAndExpire level s = expireLineTimers (rxSample level s) :=
  if_neg (by rcases h with h | h <;> simp [h])

theorem txThenRx_aligned (h : justAligned s.li (txSample level s).li = true) :
    txThenRx level s =
      expireLineTimers { txSample level s with
        li := { (txSample level s).li with lastSample := level } } := if_pos h

theorem txThenRx_else (h : justAligned s.li (txSample level s).li = false) :
    txThenRx level s = receiveAndExpire level (txSample level s) := if_neg (by simp [h])

theorem lineTimerDue_iff :
    s.lineTimerDue = true ↔ s.le.attempt.window = some 0 ∨ s.le.attempt.gap = some 0 := by
  simp [State.lineTimerDue]

theorem expireLineTimers_window (h : s.le.state = .awaiting) (hwindow : s.le.attempt.window = some 0) :
    expireLineTimers s = windowExpiry s := by
  simp [expireLineTimers, h, hwindow]

theorem expireLineTimers_gap (h : s.le.state = .receiving) (hgap : s.le.attempt.gap = some 0) :
    expireLineTimers s = gapExpiry s := by
  simp [expireLineTimers, h, hgap]

theorem expireLineTimers_none (hwindow : ¬(s.le.state = .awaiting ∧ s.le.attempt.window = some 0))
    (hgap : ¬(s.le.state = .receiving ∧ s.le.attempt.gap = some 0)) : expireLineTimers s = s := by
  cases h : s.le.state <;> simp_all [expireLineTimers]

theorem windowEvent_running (h : s.le.state = .awaiting) (hwindow : s.le.attempt.window ≠ none) :
    windowEvent s = windowExpiry s := if_pos ⟨h, Option.isSome_iff_ne_none.mpr hwindow⟩

theorem gapEvent_running (h : s.le.state = .receiving) (hgap : s.le.attempt.gap ≠ none) :
    gapEvent s = gapExpiry s := if_pos ⟨h, Option.isSome_iff_ne_none.mpr hgap⟩

/-! ## The quiet monitor (R14) -/

variable (driven : Bool)

theorem quietSample_resets (h : level = false ∨ driven = true ∨ s.li.lde = true) :
    quietSample level driven s = { s with li := { s.li with monitor := .active, quietTimer := 0 } } :=
  if_pos (by rcases h with h | h | h <;> simp [h])

theorem quietSample_counts (hlevel : level = true) (hdriven : driven = false)
    (hlde : s.li.lde = false) :
    quietSample level driven s =
      if s.li.monitor = .active ∧ s.le.params.quiet.toNat * 176 ≤ s.li.quietTimer + 1 then
        quietReport { s with li := { s.li with quietTimer := s.li.quietTimer + 1 } }
      else { s with li := { s.li with quietTimer := s.li.quietTimer + 1 } } :=
  if_neg (by simp [hlevel, hdriven, hlde])

theorem quietEvent_due (hmonitor : s.li.monitor = .active) (hlde : s.li.lde = false) :
    quietEvent s =
      quietReport { s with li := { s.li with quietTimer := s.le.params.quiet.toNat * 176 } } :=
  if_pos ⟨hmonitor, hlde⟩

end

/-! ## When the choices arise -/

theorem takesReceiver_iff (l : LineInterface) :
    l.takesReceiver = true ↔
      (∃ n, n ≤ 1 ∧ l.tx = .turnaround n) ∨
        (l.breakWaiting = true ∧ ∃ n, 15 ≤ n ∧ l.tx = .releaseBit n) := by
  cases htx : l.tx <;> simp [LineInterface.takesReceiver, htx, Config.samplesPerBit]

theorem mayReport_iff (rx : Rx) :
    rx.mayReport = true ↔
      (∃ h, rx = .hunting (some (8, h))) ∨ ∃ votes, rx = .heldLow 344 votes true := by
  unfold Rx.mayReport
  split <;> simp_all

theorem reportDue_iff (rx : Rx) :
    rx.reportDue = true ↔ rx.mayReport = true ∨ ∃ h foreign, rx = .assembling 168 h foreign := by
  cases rx with
  | assembling n h foreign => simp [Rx.reportDue, Rx.mayReport]
  | hunting candidate | heldLow n votes armed | echoing h => simp [Rx.reportDue]

theorem justAligned_iff (before after : LineInterface) :
    justAligned before after = true ↔
      (∃ n votes armed, after.rx = .heldLow n votes armed) ∧ after.rx ≠ before.rx ∧
        after.tx ≠ before.tx ∧ before.tx ≠ .released ∧ ∀ n, before.tx ≠ .turnaround n := by
  unfold justAligned
  split
  · rename_i hrx
    split <;> simp_all [and_comm]
  all_goals simp_all

end Sys2Proof.Machine

namespace Sys2Proof.Proofs
open Sys2Proof.Machine

/-- Settles O2: the frame of a period, then the order of what falls together, case by case. -/
theorem emptyQueueRunsTheClock : Obligations.EmptyQueueRunsTheClock := by
  unfold Obligations.EmptyQueueRunsTheClock
  refine ⟨fun s hpending => ?_, fun s hruns => ?_, fun s => ?_, fun s => ?_, fun s level => ?_,
    ⟨fun l => takesReceiver_iff l, fun rx => ⟨mayReport_iff rx, reportDue_iff rx⟩,
      fun before after => justAligned_iff before after⟩, fun s level driven => ?_⟩
  case refine_1 =>
    have hstep : step s = .next (refClock s) := by simp [step, hpending]
    refine ⟨fun hstill => by rw [hstep, refClock_still s hstill], fun hruns => ⟨hstep, _, hstep, ?_⟩⟩
    have hframe := refClock_frame s hruns
    exact ⟨hframe.pending.trans hpending, hframe.pins, hframe.params,
      fun h => hframe.timeBase.trans (TimeBase.next_counts h),
      fun h => hframe.timeBase.trans (TimeBase.next_ticks h),
      fun h => hframe.sampleLeft.trans (if_pos h), fun h => hframe.sampleLeft.trans (if_neg h)⟩
  case refine_2 =>
    refine ⟨refClock_apart s hruns, refClock_together s hruns, tickPeriod_counts s, fun h => ?_⟩
    rw [tickPeriod_ticks s h]
    exact congrArg Host.Outcome.next (timed_runs tick s hruns)
  case refine_3 =>
    refine ⟨fun hrate => ⟨samplePeriod_withRx s hrate, fun hleft => ?_⟩, fun r hrate hleft => ?_,
      fun hrate hleft => ?_⟩
    · rw [samplePeriod_waits s hleft]
      exact ownDivider_none _ hrate
    · rw [samplePeriod_waits s hleft]
      exact ⟨ownDivider_counts _ hrate, ownDivider_samples _ hrate⟩
    · rw [samplePeriod_withoutRx s hrate hleft]
      exact ⟨ownDivider_none _, fun r hr => ⟨ownDivider_counts _ hr, ownDivider_samples _ hr⟩⟩
  case refine_4 =>
    refine ⟨fun hnil => ⟨lrx_of_nil s hnil, by rw [hnil]; rfl⟩, fun r rest hcons =>
      ⟨lrx_of_cons s hcons, fun h0 => ?_, fun h0 => ?_⟩⟩
    · rw [hcons]
      exact if_pos h0
    · rw [hcons]
      exact if_neg h0
  case refine_5 =>
    refine ⟨rfl, rfl, lowBeforeExpiry_chosen s level, lowBeforeExpiry_else s level,
      lineSample_chosen s level, lineSample_else s level, txThenRx_aligned s level,
      txThenRx_else s level, receiveAndExpire_chosen s level, receiveAndExpire_else s level,
      lineTimerDue_iff s, fun hruns hstate hwindow => ?_, fun hruns hstate hgap => ?_,
      expireLineTimers_none s⟩
    · rw [expireLineTimers_window s hstate hwindow,
        ← windowEvent_running s hstate (by simp [hwindow])]
      exact congrArg Host.Outcome.next (timed_runs windowEvent s hruns)
    · rw [expireLineTimers_gap s hstate hgap, ← gapEvent_running s hstate (by simp [hgap])]
      exact congrArg Host.Outcome.next (timed_runs gapEvent s hruns)
  case refine_6 =>
    refine ⟨quietSample_resets s level driven, fun hlevel hdriven hlde => ?_⟩
    rw [quietSample_counts s level driven hlevel hdriven hlde]
    refine ⟨fun h => if_neg ?_, fun hmonitor hle => if_pos ⟨hmonitor, hle⟩,
      fun hruns hmonitor heq => ?_⟩
    · rintro ⟨hmonitor, hle⟩
      rcases h with hquiet | hlt
      · rw [hmonitor] at hquiet
        cases hquiet
      · omega
    · rw [if_pos ⟨hmonitor, heq.ge⟩, heq, ← quietEvent_due s hmonitor hlde]
      exact congrArg Host.Outcome.next (timed_runs quietEvent s hruns)

end Sys2Proof.Proofs

/-! PROOF. The resets, the clock's stop and the accesses that are lost (R190, R192 to R194), SOFT_RESET
(R189), the results of commands and the unused codes (R177, R179 to R181). -/

namespace Sys2Proof.Machine

/-! ## Words put together from fields (section 10.7) -/

/-- A field that begins where the lower ones end. -/
theorem place_or_place {a b : Nat} (v : BitVec a) (w : BitVec b) :
    place 0 v ||| place a w = place 0 (w ++ v) := by
  ext i hi
  simp only [place, BitVec.getElem_or, BitVec.shiftLeft_zero, BitVec.getElem_setWidth,
    BitVec.getElem_shiftLeft, BitVec.getLsbD_append]
  by_cases h : i < a
  · simp [h]
  · have hlow : v.getLsbD i = false := BitVec.getLsbD_of_ge v i (by omega)
    simp [h, hlow]

/-- The unused bits above a field are 0. -/
theorem place_append_zero {a : Nat} (k : Nat) (v : BitVec a) : place 0 (0#k ++ v) = place 0 v := by
  ext i hi
  simp only [place, BitVec.shiftLeft_zero, BitVec.getElem_setWidth, BitVec.getLsbD_append]
  by_cases h : i < a
  · simp [h]
  · have hlow : v.getLsbD i = false := BitVec.getLsbD_of_ge v i (by omega)
    simp [h, hlow]

/-- A field that begins k unused bits above the lower ones. -/
theorem place_or_gap {a b : Nat} (k : Nat) (v : BitVec a) (w : BitVec b) :
    place 0 v ||| place (k + a) w = place 0 (w ++ (0#k ++ v)) := by
  rw [← place_append_zero k v, place_or_place]

theorem place_word (w : Word) : place 0 w = w := by
  ext i hi
  simp [place]

/-! ## What kind of row a row is -/

/-- A write row is one write access. -/
theorem exec_writeRow {c : Instr} (h : isWriteRow c = true) :
    ∃ f, ∀ s, exec c s = .next (hostWrite f s) := by
  cases c with
  | dportWrite v => exact ⟨registerWrite 3 v, fun s => rfl⟩
  | evLatchWrite v => exact ⟨registerWrite 18 v, fun s => rfl⟩
  | evEnableWrite v => exact ⟨registerWrite 19 v, fun s => rfl⟩
  | rqSelWrite v => exact ⟨registerWrite 5 v, fun s => rfl⟩
  | rqTagWrite v => exact ⟨registerWrite 6 v, fun s => rfl⟩
  | rqOvrWrite v => exact ⟨registerWrite 7 v, fun s => rfl⟩
  | tabSelWrite v => exact ⟨registerWrite 21 v, fun s => rfl⟩
  | tabWWrite n v => exact ⟨tabWWrite n v, fun s => rfl⟩
  | registerWriteIgnored offset v =>
    by_cases h0 : offset = 0
    · subst h0
      exact ⟨_, fun s => rfl⟩
    · exact ⟨registerWrite offset v, fun s => congrArg Host.Outcome.next (if_neg h0)⟩
  | dportRead | tbLoRead | hardReset _ | resetRelease _ | clockStop | clockResume | tick
  | holdoffExpiry _ | periodExpiry | nextTickCycleStart | quietReport | activeReport
  | replyWindowExpiry | gapExpiry | startReport _ | characterReport _ _ _ _ | breakReport
  | firstStartReport | echoReport _ _ _ _ | releasedReport | breakLowEnd | breakDoneReport
  | heldLowEnd => cases h
  | _ => exact ⟨_, fun s => rfl⟩

/-- A read row is one read access. -/
theorem exec_readRow {c : Instr} (h : isReadRow c = true) :
    ∃ f, ∀ s, exec c s = .next (hostRead f s) := by
  cases c with
  | dportRead => exact ⟨registerRead 3, fun s => rfl⟩
  | tbLoRead => exact ⟨registerRead 16, fun s => rfl⟩
  | _ => cases h

/-- A row that counted time brings about. -/
theorem exec_timedRow {c : Instr} (h : isTimedRow c = true) :
    ∃ f, ∀ s, exec c s = .next (timed f s) := by
  cases c with
  | tick | holdoffExpiry _ | periodExpiry | nextTickCycleStart | quietReport | activeReport
  | replyWindowExpiry | gapExpiry | startReport _ | characterReport _ _ _ _ | breakReport
  | firstStartReport | echoReport _ _ _ _ | releasedReport | breakLowEnd | breakDoneReport
  | heldLowEnd => exact ⟨_, fun s => rfl⟩
  | _ => cases h

section
variable {s : State}

theorem hostRead_reset (f : State → Word × State) (h : s.pins.resetPin = true) :
    hostRead f s = { s with pins := { s.pins with dataBus := none } } := if_pos h

theorem hostRead_held (f : State → Word × State) (h : s.pins.resetPin = false)
    (hheld : s.pins.strobeHeld = true) :
    hostRead f s = { s with pins := { s.pins with strobeHeld := false, dataBus := none } } := by
  simp [hostRead, h, hheld]

/-! ## The first start bit that only waits for the clock (R8, R192) -/

theorem startIfElapsed_waits (h : s.li.tx ≠ .turnaround 0 ∨ s.li.supplied = none) :
    s.startIfElapsed = s := by
  rcases startIfElapsed_cases s with heq | ⟨c, htx, hsupplied, -, -⟩
  · exact heq
  · rcases h with hne | hnone
    · exact absurd htx hne
    · rw [hnone] at hsupplied
      cases hsupplied

theorem startIfElapsed_begins {c : TxChar} (htx : s.li.tx = .turnaround 0)
    (hsupplied : s.li.supplied = some c) (hclock : s.pins.clock = true) :
    s.startIfElapsed = firstStart c s := by
  simp [State.startIfElapsed, htx, hsupplied, hclock]

theorem firstStartEvent_due {c : TxChar} {n : Nat} (htx : s.li.tx = .turnaround n)
    (hsupplied : s.li.supplied = some c) : firstStartEvent s = firstStart c s := by
  simp [firstStartEvent, htx, hsupplied]

/-! ## SOFT_RESET (R17, R90, R189) -/

theorem softReset_station (e : Station) (cut : Bool) :
    (e.cutToggle cut).softReset =
      if e.state = .unconfigured ∨ e.state = .disabled then
        { e with toggle := e.toggle && !cut }
      else
        { e with
          state := .probing, failCount := 0, countdown := 0, toggle := false, lastReply := none,
          lastClass := none } := by
  obtain ⟨address, cls, retry, busy, fail, blocks, interval, watch, state, count, countdown, toggle,
    reply, last⟩ := e
  cases cut <;> cases state <;>
    simp [Station.cutToggle, Station.softReset, StationState.active]

/-! ## Results (R179, R180) -/

theorem answer_eq (s : State) (code : Byte) (r : ResultCode) :
    s.answer code r =
      { s with
        bi := { s.bi with result := r, answered := code }
        eu := { s.eu with
          latches := if r = .done then s.eu.latches else s.eu.latches ||| 0x400#12 } } := by
  unfold State.answer
  split_ifs with h
  · rfl
  · rfl

theorem answer_cres (s : State) (code : Byte) (r : ResultCode) :
    (s.answer code r).registerValue 1 = code ++ (0#4 ++ r.code) := by
  have hcres : (s.answer code r).registerValue 1 = place 0 r.code ||| place 8 code := by
    rw [answer_eq]
    rfl
  rw [hcres, place_or_gap 4]
  exact place_word _

/-! ## Codes outside the tables (R177, R179, R181) -/

theorem commandOf_unknown {code : Byte} (operand : Byte) (h : code ∉ commandCodes) :
    commandOf code operand = unknownCode := by
  simp only [commandCodes, List.mem_cons, List.not_mem_nil, not_or] at h
  simp only [commandOf, h, if_false]

theorem rqFlush_unknown {operand : Byte} (h : operand ∉ flushOperands) :
    rqFlush operand s = (s, .badOperand) := by
  simp only [flushOperands, List.mem_cons, List.not_mem_nil, not_or] at h
  simp only [rqFlush, h, if_false]

theorem registerWrite_ignored {offset : Fin 32} (v : Word) (h : offset ∈ ignoredOffsets) :
    registerWrite offset v s = s := by
  simp only [ignoredOffsets] at h
  fin_cases h <;> rfl

end
end Sys2Proof.Machine

namespace Sys2Proof.Proofs
open Sys2Proof.Machine

/-- Settles O4: the resets and the clock row by row, then what an access or an event does when it is not
taken, by the kind of row. -/
theorem resetClockAndLostAccesses : Obligations.ResetClockAndLostAccesses := by
  unfold Obligations.ResetClockAndLostAccesses
  refine ⟨fun s powerOn held => ⟨rfl, fun hreset => congrArg Host.Outcome.next (if_pos hreset),
    fun hreset => congrArg Host.Outcome.next (if_neg (by simp [hreset])), rfl,
    fun hwaits => congrArg Host.Outcome.next (startIfElapsed_waits hwaits),
    fun c hreset htx hsupplied => ?_⟩, fun c s => ⟨fun hreset hrow => ?_, fun hreset hrow => ?_,
      fun hreset hheld hrow => ?_, fun hreset hheld hrow => ?_, fun hstill hrow => ?_⟩⟩
  · let u : State := { s with pins := { s.pins with clock := true } }
    have hruns : u.timeRuns = true := by simp [u, State.timeRuns, hreset]
    have hrow : exec .firstStartReport u = .next (firstStart c u) := by
      rw [← firstStartEvent_due (s := u) htx hsupplied, ← timed_runs firstStartEvent u hruns]
      rfl
    rw [hrow, ← startIfElapsed_begins (s := u) htx hsupplied rfl]
    rfl
  · obtain ⟨f, hf⟩ := exec_writeRow hrow
    rw [hf, hostWrite_reset f s hreset]
  · obtain ⟨f, hf⟩ := exec_readRow hrow
    rw [hf, hostRead_reset f hreset]
  · obtain ⟨f, hf⟩ := exec_writeRow hrow
    rw [hf, hostWrite_held f s hreset hheld]
  · obtain ⟨f, hf⟩ := exec_readRow hrow
    rw [hf, hostRead_held f hreset hheld]
  · obtain ⟨f, hf⟩ := exec_timedRow hrow
    rw [hf, timed_still f s hstill]

/-- Settles O6. -/
theorem resultsAndUnusedCodes : Obligations.ResultsAndUnusedCodes := by
  unfold Obligations.ResultsAndUnusedCodes
  refine ⟨fun s code r => ⟨answer_eq s code r, answer_cres s code r, rfl⟩, fun s htaken =>
    ⟨fun code operand hcode => ?_, fun operand hoperand =>
      command_answers htaken (rqFlush_unknown hoperand), fun operand hbad =>
        ⟨command_answers htaken (stationCommand_bad _ operand s hbad),
          command_answers htaken (stationCommand_bad _ operand s hbad),
          command_answers htaken (stationCommand_bad _ operand s hbad),
          command_answers htaken (stationCommand_bad _ operand s hbad),
          command_answers htaken (stationCommand_bad _ operand s hbad)⟩,
      fun offset value hoffset => ?_⟩⟩
  · exact command_answers htaken (by rw [commandOf_unknown operand hcode]; rfl)
  · have hne : offset ≠ 0 := by
      rintro rfl
      exact absurd hoffset (by decide)
    have hwrite : exec (.registerWriteIgnored offset value) s =
        .next (hostWrite (registerWrite offset value) s) :=
      congrArg Host.Outcome.next (if_neg hne)
    rw [hwrite, hostWrite_taken _ s htaken, registerWrite_ignored value hoffset]

/-- Settles O7: the station entries one by one, and the rest as it stands. -/
theorem softReset : Obligations.SoftReset := by
  unfold Obligations.SoftReset
  intro s htaken
  obtain ⟨v, hst, hentries⟩ := softReset_entries s
  have hexec : exec .softReset s = .next ((Machine.softReset s).1.answer 0xF0 .done) :=
    command_answers (op := Machine.softReset) htaken rfl
  refine ⟨(Machine.softReset s).1.st, ?_, by rw [hst], fun i => ?_⟩
  · rw [hexec, answer_eq]
    rfl
  rw [hst]
  exact (hentries i).trans (softReset_station (s.station i) s.li.cutIsCertain)

end Sys2Proof.Proofs

/-! PROOF. LINE_HALT (R12, R13, R34, R61). -/

namespace Sys2Proof.Machine

section
variable {s : State}

theorem lineHalt_of_stopped (h : s.le.state = .stopped) : lineHalt s = (s, .done) := if_pos h

theorem lineHalt_else (h : s.le.state ≠ .stopped) :
    lineHalt s = ((haltCurrent (haltLine s)).enterStopped, .done) := if_neg h

theorem haltLine_of_idle (h : s.le.state = .idle) : haltLine s = s := by simp [haltLine, h]

theorem haltLine_of_holds (h : s.le.state.holds = true) :
    haltLine s =
      { s with
        li := if s.le.state = .turnaround ∨ s.le.state = .sending then s.li.withdraw else s.li } := by
  unfold haltLine
  cases hstate : s.le.state <;> simp_all [EngineState.holds]

theorem haltLine_of_breaking (h : s.le.state = .breaking) :
    haltLine s =
      if s.li.cutIsCertain then ({ s with li := s.li.endBreak } : State).clearToggles
      else { s with li := s.li.endBreak } := by
  simp [haltLine, h]

theorem haltCurrent_of_none (h : s.le.current = none) : haltCurrent s = s := by simp [haltCurrent, h]

variable {x : Transaction}

theorem haltCurrent_of_request {tag : Word} (h : s.le.current = some x)
    (horigin : x.origin = .request tag) :
    haltCurrent s =
      { s with
        le := { s.le with current := none, attempt := Attempt.blank }
        fs := { s.fs with free := s.fs.free ++ x.payload ++ x.reservation }
        cq :=
          { ring := s.cq.ring ++ [{ x.record tag .aborted x.cancel with stamp := s.tb.counter }]
            reserved := s.cq.reserved - 1 }
        eu := { s.eu with latches := s.eu.latches ||| 0x001#12 } } := by
  simp only [haltCurrent, h, haltTransaction, horigin]
  rfl

theorem haltCurrent_of_item (h : s.le.current = some x) (hitem : x.isRequest = false) :
    haltCurrent s =
      { s with
        le := { s.le with current := none, attempt := Attempt.blank }
        fs := { s.fs with free := s.fs.free ++ x.payload ++ x.reservation } } := by
  cases horigin : x.origin with
  | request tag => simp [Transaction.isRequest, horigin] at hitem
  | pollSlot | readSlot | probe =>
    simp only [haltCurrent, h, haltTransaction, horigin]
    rfl

/-! ## The orders, phase by phase of the transmitter -/

variable {l : LineInterface}

theorem orders_of_turnaround {n : Nat} (h : l.tx = .turnaround n) :
    l.withdraw = { l with tx := .releaseBit 0, supplied := none } ∧
      l.endBreak = { l with breakWaiting := false } ∧ l.cutIsCertain = false := by
  simp [LineInterface.withdraw, LineInterface.endBreak, LineInterface.cutIsCertain, h]

theorem orders_of_sending {c : TxChar} {n : Nat} {e : Option Bool} (h : l.tx = .sending c n e) :
    l.withdraw = { l with supplied := none } ∧
      l.endBreak = { l with breakWaiting := false } ∧ l.cutIsCertain = false := by
  simp [LineInterface.withdraw, LineInterface.endBreak, LineInterface.cutIsCertain, h]

theorem orders_of_breakLow {n : Nat} (h : l.tx = .breakLow n) :
    l.endBreak = { l with tx := .breakHigh 0, breakWaiting := false } ∧
      (l.cutIsCertain = true ↔ 352 ≤ n) := by
  simp only [LineInterface.endBreak, LineInterface.cutIsCertain, h, decide_eq_true_eq, true_and]
  exact Iff.rfl

theorem orders_of_rest
    (h : l.tx = .released ∨ (∃ n, l.tx = .releaseBit n) ∨ (∃ n, l.tx = .breakHigh n)) :
    l.withdraw = l ∧ l.endBreak = { l with breakWaiting := false } ∧ l.cutIsCertain = false := by
  rcases h with h | ⟨n, h⟩ | ⟨n, h⟩ <;>
    simp [LineInterface.withdraw, LineInterface.endBreak, LineInterface.cutIsCertain, h]

end
end Sys2Proof.Machine

namespace Sys2Proof.Proofs
open Sys2Proof.Machine

/-- Settles O10, by the engine's state and what the halt finds. -/
theorem lineHalt : Obligations.LineHalt := by
  unfold Obligations.LineHalt
  refine ⟨fun s htaken => ?_, fun l => ⟨fun n => orders_of_turnaround, fun c n e => orders_of_sending,
    fun n => orders_of_breakLow, orders_of_rest⟩⟩
  have hhalt {t u : State} (h : s.le.state ≠ .stopped) (hline : haltLine s = t)
      (hcurrent : haltCurrent t = u) :
      exec .lineHalt s = .next (u.enterStopped.answer 0x12 .done) :=
    command_answers htaken (by rw [lineHalt_else h, hline, hcurrent])
  have hne_of_holds (h : s.le.state.holds = true) : s.le.state ≠ .stopped := by
    intro hstopped
    rw [hstopped] at h
    cases h
  refine ⟨fun h => command_answers htaken (lineHalt_of_stopped h), fun h hcurrent => ?_,
    fun x tag h hcurrent horigin => ?_, fun x h hcurrent hitem => ?_, fun h hcurrent hcut => ?_,
    fun h hcurrent hcut => ?_⟩
  · exact hhalt (by simp [h]) (haltLine_of_idle h) (haltCurrent_of_none hcurrent)
  · exact hhalt (hne_of_holds h) (haltLine_of_holds h) (haltCurrent_of_request hcurrent horigin)
  · exact hhalt (hne_of_holds h) (haltLine_of_holds h) (haltCurrent_of_item hcurrent hitem)
  · exact hhalt (by simp [h]) ((haltLine_of_breaking h).trans (if_neg (by simp [hcut])))
      (haltCurrent_of_none hcurrent)
  · obtain ⟨v, hclear, hentries⟩ := clearToggles_eq { s with li := s.li.endBreak }
    refine ⟨{ s.st with entries := v }, ?_, rfl, hentries⟩
    exact hhalt (by simp [h]) (((haltLine_of_breaking h).trans (if_pos hcut)).trans hclear)
      (haltCurrent_of_none hcurrent)

end Sys2Proof.Proofs

/-! PROOF. The bit layouts of the table staging image (section 10.7.3): each image word by word, and what a
configuration is staged from reads back (R63, R81). -/

namespace Sys2Proof.Machine

/-! ## Fields of words put together from fields -/

theorem field_or (n lo : Nat) (x y : Word) : field n lo (x ||| y) = field n lo x ||| field n lo y := by
  ext i hi
  simp [field]

/-- A field reads what was put in its place. -/
theorem field_place {n lo : Nat} (v : BitVec n) (h : lo + n ≤ 16) : field n lo (place lo v) = v := by
  ext i hi
  simp [field, place, BitVec.getLsbD_eq_getElem hi, show lo + i < 16 by omega]

/-- What lies below a field reads as 0 in it. -/
theorem field_place_below {n lo a b : Nat} (v : BitVec b) (h : a + b ≤ lo) :
    field n lo (place a v) = 0 := by
  ext i hi
  have hv : v.getLsbD (lo + i - a) = false := BitVec.getLsbD_of_ge v _ (by omega)
  simp [field, place, hv]

/-- What lies above a field reads as 0 in it. -/
theorem field_place_above {n lo a b : Nat} (v : BitVec b) (h : lo + n ≤ a) :
    field n lo (place a v) = 0 := by
  ext i hi
  simp [field, place, show lo + i < a by omega]

theorem ofBool_eq_one (b : Bool) : BitVec.ofBool b = 1#1 ↔ b = true := by
  cases b <;> simp

/-! ## Images -/

theorem imageOf_get (ws : List Word) (n : Fin 8) : (imageOf ws).get n = ws.getD n.val 0 :=
  vector_get_ofFn _ n

/-- The words that an image leaves out are 0 (R185). -/
theorem imageOf_append_zeros (ws : List Word) (k : Nat) :
    imageOf (ws ++ List.replicate k 0) = imageOf ws := by
  refine Vector.ext fun i hi => ?_
  have hget (l : List Word) : (imageOf l)[i] = l.getD i 0 := imageOf_get l ⟨i, hi⟩
  rw [hget, hget, List.getD_eq_getElem?_getD, List.getD_eq_getElem?_getD, List.getElem?_append]
  split
  · rfl
  · rename_i h
    rw [List.getElem?_eq_none (l := ws) (by omega), List.getElem?_replicate]
    split <;> rfl

theorem LineParams.image_eq (p : LineParams) :
    p.image = imageOf
      [0#4 ++ p.divisor, p.window ++ p.turnaround,
       p.share ++ (p.breakLength ++ (p.quiet ++ p.gap)),
       0#2 ++ (p.threshold ++ p.holdoff), p.period] := by
  refine congrArg imageOf ?_
  simp only [List.cons.injEq, and_true]
  refine ⟨?_, ?_, ?_, ?_⟩
  · rw [← place_append_zero 4]
    exact place_word _
  · rw [place_or_place]
    exact place_word _
  · rw [place_or_place, place_or_place, place_or_place]
    exact place_word _
  · rw [place_or_place, ← place_append_zero 2]
    exact place_word _

theorem replyKindCode_eq (k : Option ReplyKind) : replyKindCode k = (k.map ReplyKind.code).getD 0 := by
  cases k <;> rfl

theorem Station.image_eq (e : Station) :
    e.image = imageOf
      [e.expectedClass ++ e.address,
       BitVec.ofBool e.watch ++ (0#1 ++ (e.replyBlocks ++ (e.failLimit ++ (e.busyLimit ++
        (0#1 ++ e.retryLimit))))),
       0#8 ++ e.probeInterval,
       0,
       0#4 ++ (e.failCount ++ (0#3 ++ (BitVec.ofBool e.toggle ++ (0#1 ++ e.state.code)))),
       0#8 ++ e.countdown,
       e.lastClass.getD 0 ++ (BitVec.ofBool e.lastClass.isSome ++
        (0#3 ++ (e.lastReply.map ReplyKind.code).getD 0))] := by
  refine congrArg imageOf ?_
  simp only [List.cons.injEq, and_true, true_and, placeBool, replyKindCode_eq]
  refine ⟨?_, ?_, ?_, ?_, ?_, ?_⟩
  · rw [place_or_place]
    exact place_word _
  · rw [place_or_gap 1, place_or_place, place_or_place, place_or_gap 1]
    exact place_word _
  · rw [← place_append_zero 8]
    exact place_word _
  · rw [place_or_gap 1, place_or_gap 3, ← place_append_zero 4]
    exact place_word _
  · rw [← place_append_zero 8]
    exact place_word _
  · rw [place_or_gap 3, place_or_place]
    exact place_word _

theorem Slot.image_eq (x : Slot) :
    x.image = imageOf
      [BitVec.ofBool x.enabled ++ (0#3 ++ (x.kind.code ++ (0#3 ++ BitVec.ofNat 5 x.station.val))),
       0#8 ++ x.selector] := by
  refine congrArg imageOf ?_
  simp only [List.cons.injEq, and_true, placeBool]
  refine ⟨?_, ?_⟩
  · rw [place_or_gap 3, place_or_gap 3]
    exact place_word _
  · rw [← place_append_zero 8]
    exact place_word _

theorem lengthImage_eq (n : BitVec 7) (active : Bool) :
    lengthImage n active = imageOf [0#9 ++ n, 0#15 ++ BitVec.ofBool active] := by
  refine congrArg imageOf ?_
  simp only [List.cons.injEq, and_true, placeBool]
  refine ⟨?_, ?_⟩
  · rw [← place_append_zero 9]
    exact place_word _
  · rw [← place_append_zero 15]
    exact place_word _

theorem Route.image_eq (r : Route) :
    r.image = imageOf [0#6 ++ (r.output.code ++ (0#5 ++ r.level))] := by
  refine congrArg imageOf ?_
  simp only [List.cons.injEq, and_true]
  rw [place_or_gap 5, ← place_append_zero 6]
  exact place_word _

/-- The flags of a snapshot record: what stands below bit 10, a next reply, the pin. -/
theorem snapshotFlags (installed : BitVec 10) (next pinned : Bool) :
    place 0 installed ||| placeBool 14 next ||| placeBool 15 pinned =
      BitVec.ofBool pinned ++ (BitVec.ofBool next ++ (0#4 ++ installed)) := by
  rw [placeBool, placeBool, place_or_gap 4, place_or_place]
  exact place_word _

theorem Snapshot.image_of_none {x : Snapshot} (h : x.current = none) :
    x.image = imageOf
      [x.generation,
        BitVec.ofBool x.pinned ++ (BitVec.ofBool x.next.isSome ++ (0#4 ++ (0#10)))] := by
  have himage : x.image = imageOf ([x.generation,
      place 0 (0#10) ||| placeBool 14 x.next.isSome ||| placeBool 15 x.pinned] ++
        List.replicate 2 0) := by
    simp only [Snapshot.image, h]
    rfl
  rw [himage, imageOf_append_zeros, snapshotFlags]

theorem Snapshot.image_of_some {x : Snapshot} {c : Installed} (h : x.current = some c) :
    x.image = imageOf
      [x.generation,
        BitVec.ofBool x.pinned ++ (BitVec.ofBool x.next.isSome ++
          (0#4 ++ (c.kind.code ++ (1#1 ++ (0#1 ++ c.length))))),
        c.stamp.extractLsb' 0 16, c.stamp.extractLsb' 16 16] := by
  have himage : x.image = imageOf [x.generation,
      place 0 c.length ||| placeBool 8 true ||| place 9 c.kind.code |||
        placeBool 14 x.next.isSome ||| placeBool 15 x.pinned,
      c.stamp.extractLsb' 0 16, c.stamp.extractLsb' 16 16] := by
    simp only [Snapshot.image, h]
    rfl
  have hinstalled : place 0 c.length ||| placeBool 8 true ||| place 9 c.kind.code =
      place 0 (c.kind.code ++ (1#1 ++ (0#1 ++ c.length))) := by
    rw [placeBool, place_or_gap 1, place_or_place]
    rfl
  rw [himage, hinstalled, snapshotFlags]

theorem chgHeadWord_cons (n : Notice) (q : List Notice) :
    chgHeadWord (n :: q) =
      1#1 ++ (0#4 ++ (n.latestNew.code ++ (n.firstOld.code ++ BitVec.ofNat 5 n.station.val))) := by
  rw [chgHeadWord, placeBool, place_or_place, place_or_place, place_or_gap 4]
  exact place_word _

theorem chgTimesWord_cons (n : Notice) (q : List Notice) :
    chgTimesWord (n :: q) = 0#8 ++ n.count := by
  rw [chgTimesWord, ← place_append_zero 8]
  exact place_word _

/-! ## What is staged reads back -/

theorem LineParams.staged_image (p : LineParams) : LineParams.staged p.image = p := by
  simp [LineParams.staged, LineParams.image, imageOf_get, field_or, field_place, field_place_below,
    field_place_above]

theorem Station.staged_image (e : Station) : e.staged e.image = e := by
  simp [Station.staged, Station.image, imageOf_get, field_or, field_place, field_place_below,
    field_place_above, placeBool, ofBool_eq_one]

end Sys2Proof.Machine

namespace Sys2Proof.Proofs
open Sys2Proof.Machine

/-- Settles O26, table by table. -/
theorem imagesRoundTrip : Obligations.ImagesRoundTrip := by
  unfold Obligations.ImagesRoundTrip
  refine ⟨LineParams.staged_image, Station.staged_image, LineParams.image_eq, Station.image_eq,
    Slot.image_eq, lengthImage_eq, Route.image_eq,
    fun x => ⟨Snapshot.image_of_none, fun c => Snapshot.image_of_some⟩,
    ⟨imageOf_append_zeros [] 4, fun n q => ?_⟩, imageOf_get, rfl, rfl, rfl, rfl, rfl⟩
  rw [← chgHeadWord_cons n q, ← chgTimesWord_cons n q]
  rfl

end Sys2Proof.Proofs

/-! PROOF. The registers of the staging area, the table access and the views (sections 10.2, 10.7.2;
R178, R182 to R184, R188). -/

namespace Sys2Proof.Machine

/-! ## One-bit fields and masks -/

theorem field_bit (n : Nat) (v : Word) : decide (field 1 n v = 1) = v.getLsbD n := by
  have h : field 1 n v = BitVec.ofBool (v.getLsbD n) := by
    ext i hi
    have h0 : i = 0 := by omega
    subst h0
    simp [field]
  rw [h, Bool.eq_iff_iff, decide_eq_true_eq]
  exact ofBool_eq_one _

/-- A word of staged fields keeps the bits of its fields and no others. -/
theorem sel_of_fields (v : Word) :
    place 0 (field 5 0 v) ||| place 8 (field 4 8 v) ||| placeBool 15 (v.getLsbD 15) =
      v &&& 0x8F1F#16 := by
  ext i hi
  interval_cases i <;> simp [place, placeBool, field]

theorem ovr_of_fields (v : Word) :
    place 0 (field 4 0 v) ||| place 8 (field 3 8 v) = v &&& 0x070F#16 := by
  ext i hi
  interval_cases i <;> simp [place, field]

theorem tabSel_of_fields (v : Word) :
    place 0 (field 8 0 v) ||| place 8 (field 3 8 v) ||| placeBool 15 (v.getLsbD 15) =
      v &&& 0x87FF#16 := by
  ext i hi
  interval_cases i <;> simp [place, placeBool, field]

theorem sel_masked (g : Staging) : g.sel &&& 0x8F1F#16 = g.sel := by
  unfold Staging.sel
  ext i hi
  interval_cases i <;> simp [place, placeBool]

section
variable (s : State)

/-! ## Writes of the staging area and of TAB_SEL (R182, R183) -/

theorem rqSelWrite_eq (v : Word) :
    rqSelWrite v s =
      { s with
        ru := { s.ru with
          staging := { s.ru.staging with
            station := v.extractLsb' 0 5, kind := v.extractLsb' 8 4, urgent := v.getLsbD 15 } } } := by
  unfold rqSelWrite
  rw [field_bit]
  rfl

theorem tabSelWrite_eq (v : Word) :
    tabSelWrite v s =
      { s with
        bi := { s.bi with
          tabIndex := v.extractLsb' 0 8, tabSelect := v.extractLsb' 8 3,
          tabPage := v.getLsbD 15 } } := by
  unfold tabSelWrite
  rw [field_bit]
  rfl

theorem rqSelWrite_sel (v : Word) : (rqSelWrite v s).registerValue 5 = v &&& 0x8F1F#16 := by
  rw [rqSelWrite_eq, ← sel_of_fields]
  rfl

theorem tabSelWrite_tabSel (v : Word) : (tabSelWrite v s).registerValue 21 = v &&& 0x87FF#16 := by
  rw [tabSelWrite_eq, ← tabSel_of_fields]
  rfl

/-! ## The image words (R184) -/

theorem windowWord_eq {n : Fin 4} {m : Fin 8} (h : m.val = n.val + (if s.bi.tabPage then 4 else 0)) :
    s.windowWord n = m := by
  have hn := n.isLt
  unfold State.windowWord
  split_ifs at h ⊢ <;> refine Fin.ext ?_ <;> rw [h, Fin.val_ofNat] <;> omega

theorem registerValue_tabW (n : Fin 4) :
    s.registerValue (Fin.ofNat 32 (22 + n.val)) = s.bi.image.get (s.windowWord n) := by
  fin_cases n <;> rfl

/-! ## The views (R178, R188) -/

theorem sts_eq :
    s.sts =
      0#5 ++ (BitVec.ofBool (decide (s.li.monitor = .quiet)) ++ (s.fs.cursor.code ++
        (BitVec.ofBool s.cu.swapPending ++ (BitVec.ofBool s.le.stopMark ++ (s.cu.state.code ++
          (0#1 ++ s.le.state.code)))))) := by
  simp only [State.sts, placeBool]
  rw [place_or_gap 1, place_or_place, place_or_place, place_or_place, place_or_place,
    ← place_append_zero 5]
  exact place_word _

theorem cqCount_eq :
    s.cqCount = 0#2 ++ (BitVec.ofNat 6 s.cq.reserved ++ (0#2 ++ BitVec.ofNat 6 s.cq.ring.length)) := by
  rw [State.cqCount, place_or_gap 2, ← place_append_zero 2]
  exact place_word _

theorem Record.out_eq (r : Record) :
    r.out =
      BitVec.ofBool (decide (r.chain ≠ [])) ++ (BitVec.ofBool r.cancel ++
        (BitVec.ofBool r.station.isSome ++
          ((r.station.map fun i => BitVec.ofNat 5 i.val).getD 0 ++ (r.kind.code ++ r.outcome.code)))) := by
  have hchain : (!r.chain.isEmpty) = decide (r.chain ≠ []) := by cases r.chain <;> rfl
  simp only [Record.out, placeBool, hchain]
  rw [place_or_place, place_or_place, place_or_place, place_or_place, place_or_place]
  exact place_word _

theorem causeCode_eq (c : Option Cause) : causeCode c = (c.map Cause.code).getD 0 := by
  cases c <;> rfl

theorem Record.counts_eq (r : Record) :
    r.counts =
      (r.replyKind.map ReplyKind.code).getD 0 ++ ((r.cause.map Cause.code).getD 0 ++
        (r.busyCount ++ r.attempts)) := by
  rw [Record.counts, replyKindCode_eq, causeCode_eq, place_or_place, place_or_place, place_or_place]
  exact place_word _

theorem Record.reply_eq (r : Record) :
    r.reply =
      r.nakReason.getD 0 ++ (BitVec.ofBool r.replyLength.isSome ++ r.replyLength.getD 0) := by
  rw [Record.reply, placeBool, place_or_place, place_or_place]
  exact place_word _

theorem headView_of_nil (f : Record → Word) (h : s.cq.ring = []) : s.headView f = 0 := by
  simp [State.headView, State.headRecord, h]

theorem headView_of_cons (f : Record → Word) {r : Record} {rest : List Record}
    (h : s.cq.ring = r :: rest) : s.headView f = f r := by
  simp [State.headView, State.headRecord, h]

end
end Sys2Proof.Machine

namespace Sys2Proof.Proofs
open Sys2Proof.Machine

/-- Settles O31: the writes, the views register by register, the codes. -/
theorem stagingAndTableRegisters : Obligations.StagingAndTableRegisters := by
  unfold Obligations.StagingAndTableRegisters
  refine ⟨fun s v htaken => ⟨?_, congrArg Host.Outcome.next (hostWrite_taken _ s htaken),
      congrArg Host.Outcome.next (hostWrite_taken _ s htaken), ?_, fun n m hm => ?_,
      sel_masked s.ru.staging, rqSelWrite_sel s v, rfl, ovr_of_fields v, tabSelWrite_tabSel s v⟩,
    fun s => ⟨sts_eq s, ?_, cqCount_eq s, ?_, ?_, rfl, rfl, rfl, fun hnil n => ?_,
      fun r rest hcons => ⟨headView_of_cons s _ hcons, ?_, ?_, ?_, headView_of_cons s _ hcons,
        headView_of_cons s _ hcons⟩, fun hnil => ?_, fun n q hcons => ?_⟩,
    rfl, rfl, fun i p r => rfl, rfl, rfl⟩
  · rw [← rqSelWrite_eq]
    exact congrArg Host.Outcome.next (hostWrite_taken (rqSelWrite v) s htaken)
  · rw [← tabSelWrite_eq]
    exact congrArg Host.Outcome.next (hostWrite_taken (tabSelWrite v) s htaken)
  · rw [← windowWord_eq s hm]
    exact ⟨congrArg Host.Outcome.next (hostWrite_taken (tabWWrite n v) s htaken),
      registerValue_tabW s n⟩
  · exact (place_append_zero 9 _).symm.trans (place_word _)
  · exact (place_append_zero 8 _).symm.trans (place_word _)
  · exact (place_append_zero 10 _).symm.trans (place_word _)
  · fin_cases n <;> exact headView_of_nil s _ hnil
  · exact (headView_of_cons s _ hcons).trans r.out_eq
  · exact (headView_of_cons s _ hcons).trans r.counts_eq
  · exact (headView_of_cons s _ hcons).trans r.reply_eq
  · show chgHeadWord s.st.changes = 0 ∧ chgTimesWord s.st.changes = 0
    rw [hnil]
    exact ⟨rfl, rfl⟩
  · rw [← chgHeadWord_cons n q, ← chgTimesWord_cons n q, ← hcons]
    exact ⟨rfl, rfl⟩

end Sys2Proof.Proofs

/-! PROOF. The Event Unit: the events as the host reads them (R88, R117, R141, R168, R169), the outputs and
EV_PEND (R171, R172). -/

namespace Sys2Proof.Machine

/-! ## The twelve events -/

theorem Event.bit_getLsbD (e : Event) (n : Fin 12) : e.bit.getLsbD n.val = decide (n = e.number) := by
  cases e <;> revert n <;> decide

theorem truthBit_getLsbD (c : Bool) (e : Event) (n : Fin 12) :
    (truthBit c e).getLsbD n.val = (c && decide (n = e.number)) := by
  cases c with
  | false => simp [truthBit]
  | true => simpa [truthBit] using e.bit_getLsbD n

section
variable (s : State)

theorem events_getLsbD (n : Fin 12) :
    s.events.getLsbD n.val =
      ((s.eu.latches.getLsbD n.val && occurrenceMask.getLsbD n.val) ||
        (s.completionsPending && decide (n = 1)) || (!s.st.changes.isEmpty && decide (n = 2)) ||
        (s.bufferWait && decide (n = 8))) := by
  simp only [State.events, BitVec.getLsbD_or, BitVec.getLsbD_and, truthBit_getLsbD]
  rfl

/-- EV_LATCH shows an event at its position. -/
theorem evLatch_getLsbD (n : Fin 12) : (s.registerValue 18).getLsbD n.val = s.events.getLsbD n.val := by
  show (place 0 s.events).getLsbD n.val = _
  have hn : n.val < 16 := by omega
  simp [place, hn]

theorem evLatch_occurrence {n : Fin 12} (h1 : n.val ≠ 1) (h2 : n.val ≠ 2) (h8 : n.val ≠ 8) :
    (s.registerValue 18).getLsbD n.val = s.eu.latches.getLsbD n.val := by
  have hmask : occurrenceMask.getLsbD n.val = true := by
    revert n
    decide
  have hne1 : n ≠ 1 := fun h => h1 (congrArg Fin.val h)
  have hne2 : n ≠ 2 := fun h => h2 (congrArg Fin.val h)
  have hne8 : n ≠ 8 := fun h => h8 (congrArg Fin.val h)
  rw [evLatch_getLsbD, events_getLsbD]
  simp only [hmask, hne1, hne2, hne8, decide_false, Bool.and_false, Bool.and_true, Bool.or_false]

theorem evLatch_completionsPending :
    (s.registerValue 18).getLsbD 1 = true ↔ s.le.params.threshold.toNat ≤ s.cq.ring.length := by
  have h := (evLatch_getLsbD s 1).trans (events_getLsbD s 1)
  rw [show (s.registerValue 18).getLsbD 1 = s.completionsPending by
    simpa [occurrenceMask] using h]
  exact decide_eq_true_iff

theorem evLatch_stationNotice : (s.registerValue 18).getLsbD 2 = true ↔ s.st.changes ≠ [] := by
  have h := (evLatch_getLsbD s 2).trans (events_getLsbD s 2)
  rw [show (s.registerValue 18).getLsbD 2 = !s.st.changes.isEmpty by
    simpa [occurrenceMask] using h]
  simp

theorem evLatch_bufferWait : (s.registerValue 18).getLsbD 8 = true ↔ s.bufferWait = true := by
  have h := (evLatch_getLsbD s 8).trans (events_getLsbD s 8)
  rw [show (s.registerValue 18).getLsbD 8 = s.bufferWait by
    simpa [occurrenceMask] using h]
end

/-! ## The pending level and the pending event (R172) -/

theorem contributes_iff (eu : EventUnit) (truth : BitVec 12) (o : Output) (n : Fin 12) :
    contributes eu truth o n = true ↔
      (eu.routes.get n).output = o ∧ (eu.routes.get n).level ≠ 0 ∧
        eu.enables.getLsbD n.val = true ∧ truth.getLsbD n.val = true := by
  simp [contributes, and_assoc]

theorem higher_spec (a b : BitVec 3) :
    a.toNat ≤ (higher a b).toNat ∧ b.toNat ≤ (higher a b).toNat ∧ (higher a b = a ∨ higher a b = b) := by
  unfold higher
  split_ifs with h
  · exact ⟨h.le, le_rfl, .inr rfl⟩
  · exact ⟨le_rfl, not_lt.mp h, .inl rfl⟩

/-- The highest level among those of a list that count, from a start: at least each of them, and one of them
or the start. -/
theorem highest_spec {α : Type} (p : α → Bool) (f : α → BitVec 3) (l : List α) (start : BitVec 3) :
    let r := l.foldl (fun m n => if p n then higher m (f n) else m) start
    start.toNat ≤ r.toNat ∧ (∀ n ∈ l, p n = true → (f n).toNat ≤ r.toNat) ∧
      (r = start ∨ ∃ n ∈ l, p n = true ∧ f n = r) := by
  induction l generalizing start with
  | nil => exact ⟨le_rfl, fun n hn => absurd hn List.not_mem_nil, .inl rfl⟩
  | cons a l ih =>
    obtain ⟨hstart, hall, hone⟩ := ih (if p a then higher start (f a) else start)
    obtain ⟨hle, hle', heq⟩ := higher_spec start (f a)
    by_cases hp : p a = true
    · simp only [List.foldl_cons, if_pos hp] at hstart hall hone ⊢
      refine ⟨hle.trans hstart, List.forall_mem_cons.mpr ⟨fun _ => hle'.trans hstart, hall⟩, ?_⟩
      rcases hone with hr | ⟨n, hn, hpn, hr⟩
      · rcases heq with h | h
        · exact .inl (hr.trans h)
        · exact .inr ⟨a, List.mem_cons_self, hp, (hr.trans h).symm⟩
      · exact .inr ⟨n, List.mem_cons_of_mem a hn, hpn, hr⟩
    · simp only [List.foldl_cons, if_neg hp] at hstart hall hone ⊢
      refine ⟨hstart, List.forall_mem_cons.mpr ⟨fun h => absurd h hp, hall⟩, ?_⟩
      exact hone.imp id fun ⟨n, hn, hpn, hr⟩ => ⟨n, List.mem_cons_of_mem a hn, hpn, hr⟩

/-- The first of the twelve that has a property. -/
theorem find?_finRange_spec {n : Nat} {p : Fin n → Bool} {k : Fin n}
    (h : (List.finRange n).find? p = some k) : p k = true ∧ ∀ j, p j = true → k.val ≤ j.val := by
  obtain ⟨hk, before, after, heq, hbefore⟩ := List.find?_eq_some_iff_append.mp h
  refine ⟨hk, fun j hj => ?_⟩
  have hmem : j ∈ before ++ k :: after := heq ▸ List.mem_finRange j
  have hsorted : (before ++ k :: after).Pairwise (· < ·) := heq ▸ List.pairwise_lt_finRange n
  rcases List.mem_append.mp hmem with hin | hin
  · have hnot := hbefore j hin
    simp [hj] at hnot
  · rcases List.mem_cons.mp hin with rfl | hin
    · exact le_rfl
    · have hafter := (List.pairwise_append.mp hsorted).2.1
      exact (List.rel_of_pairwise_cons hafter hin).le

section
variable {eu : EventUnit} {truth : BitVec 12} {o : Output}

theorem pendingLevel_le {n : Fin 12} (h : contributes eu truth o n = true) :
    (eu.routes.get n).level.toNat ≤ (pendingLevel eu truth o).toNat :=
  (highest_spec (contributes eu truth o) (fun n => (eu.routes.get n).level) (List.finRange 12)
    0).2.1 n (List.mem_finRange n) h

theorem pendingLevel_cases (eu : EventUnit) (truth : BitVec 12) (o : Output) :
    pendingLevel eu truth o = 0 ∨
      ∃ n, contributes eu truth o n = true ∧ (eu.routes.get n).level = pendingLevel eu truth o := by
  obtain ⟨-, -, h⟩ := highest_spec (contributes eu truth o) (fun n => (eu.routes.get n).level)
    (List.finRange 12) 0
  exact h.imp id fun ⟨n, _, hn, hlevel⟩ => ⟨n, hn, hlevel⟩

theorem pending_of_none (h : ∀ n, contributes eu truth o n = false) :
    pendingLevel eu truth o = 0 ∧ pendingEvent eu truth o = 0 := by
  refine ⟨(pendingLevel_cases eu truth o).resolve_right fun ⟨n, hn, _⟩ => ?_, ?_⟩
  · simp [h n] at hn
  · rw [pendingEvent, List.find?_eq_none.mpr fun n _ => by simp [h]]
    rfl

/-- Where an event contributes, one does at the pending level. -/
theorem contributes_at_level (h : ∃ n, contributes eu truth o n = true) :
    ∃ n, contributes eu truth o n = true ∧ (eu.routes.get n).level = pendingLevel eu truth o := by
  refine (pendingLevel_cases eu truth o).resolve_left fun hzero => ?_
  obtain ⟨n, hn⟩ := h
  have hle := pendingLevel_le hn
  rw [hzero] at hle
  obtain ⟨-, hlevel, -⟩ := (contributes_iff eu truth o n).mp hn
  exact hlevel (BitVec.eq_of_toNat_eq (by simpa using hle))

theorem pendingEvent_spec (h : ∃ n, contributes eu truth o n = true) :
    contributes eu truth o (pendingEvent eu truth o) = true ∧
      (eu.routes.get (pendingEvent eu truth o)).level = pendingLevel eu truth o ∧
      ∀ n, contributes eu truth o n = true →
        (eu.routes.get n).level = pendingLevel eu truth o →
        (pendingEvent eu truth o).val ≤ n.val := by
  obtain ⟨m, hm, hlevel⟩ := contributes_at_level h
  cases hfind : (List.finRange 12).find? fun n =>
      contributes eu truth o n && decide ((eu.routes.get n).level = pendingLevel eu truth o) with
  | none =>
    have hnot := List.find?_eq_none.mp hfind m (List.mem_finRange m)
    simp [hm, hlevel] at hnot
  | some k =>
    have hk : pendingEvent eu truth o = k := by rw [pendingEvent, hfind]; rfl
    obtain ⟨hkp, hleast⟩ := find?_finRange_spec hfind
    simp only [Bool.and_eq_true, decide_eq_true_eq] at hkp hleast
    rw [hk]
    exact ⟨hkp.1, hkp.2, fun n hn hnlevel => hleast n ⟨hn, hnlevel⟩⟩

theorem asserted_iff : asserted eu truth o = true ↔ ∃ n, contributes eu truth o n = true := by
  simp [asserted]
end

theorem evPend_eq (s : State) :
    s.evPend =
      BitVec.ofNat 4 (pendingEvent s.eu s.events .b).val ++ (0#1 ++
        (pendingLevel s.eu s.events .b ++ (BitVec.ofNat 4 (pendingEvent s.eu s.events .a).val ++
          (0#1 ++ pendingLevel s.eu s.events .a)))) := by
  rw [State.evPend, place_or_gap 1, place_or_place, place_or_gap 1]
  exact place_word _

end Sys2Proof.Machine

namespace Sys2Proof.Proofs
open Sys2Proof.Machine

/-- Settles O32: the latches bit by bit; the pending level is the highest, the pending event the first at
it. -/
theorem eventsAndOutputs : Obligations.EventsAndOutputs := by
  unfold Obligations.EventsAndOutputs
  refine ⟨fun s v htaken => ⟨congrArg Host.Outcome.next (hostWrite_taken _ s htaken),
    congrArg Host.Outcome.next (hostWrite_taken _ s htaken), by simp [State.registerValue, place],
    fun n => evLatch_occurrence s, evLatch_completionsPending s, evLatch_stationNotice s,
    evLatch_bufferWait s⟩, fun s o => ?_⟩
  simp only [← contributes_iff]
  refine ⟨asserted_iff, ?_, evPend_eq s, fun hnone => pending_of_none fun n => by simpa using hnone n,
    fun hsome => ?_⟩
  · rw [← asserted_iff]
    show (!asserted s.eu s.events o) = false ↔ _
    simp
  · obtain ⟨hevent, hlevel, hleast⟩ := pendingEvent_spec hsome
    exact ⟨hevent, hlevel, fun n => pendingLevel_le, hleast⟩

end Sys2Proof.Proofs

/-! PROOF. RQ_SUBMIT: its checks and what an accepted request changes (R124, R125). -/

namespace Sys2Proof.Machine

/-! ## The codes of the staging area (section 10.7) -/

theorem requestKind_code {k : CommandKind} (h : k ≠ .poll) : requestKind k.code = some k := by
  cases k with
  | poll => exact absurd rfl h
  | read | write | probe | bcast | timesync => rfl

theorem requestKind_some {c : BitVec 4} {k : CommandKind} (h : requestKind c = some k) :
    k ≠ .poll ∧ c = k.code := by
  unfold requestKind at h
  split_ifs at h with h2 h3 h4 h5 h6 <;> cases h <;> exact ⟨nofun, by assumption⟩

/-- The codes 2 to 6 name a kind. -/
theorem requestKind_of_range {c : BitVec 4} (h : 2 ≤ c.toNat ∧ c.toNat ≤ 6) :
    ∃ k : CommandKind, k ≠ .poll ∧ c = k.code := by
  cases hkind : requestKind c with
  | some k => exact ⟨k, requestKind_some hkind⟩
  | none =>
    exfalso
    revert c
    decide

theorem retryOverride_of {c : BitVec 4} (h : c.toNat < 9) :
    retryOverride c = some (if c.toNat < 8 then some (c.setWidth 3) else none) := by
  unfold retryOverride
  split_ifs with h8 hc
  · rfl
  · rfl
  · exact absurd (BitVec.eq_of_toNat_eq (show c.toNat = 8 by omega)) hc

theorem retryOverride_beyond {c : BitVec 4} (h : 9 ≤ c.toNat) : retryOverride c = none := by
  revert c
  decide

theorem blocksOverride_of {c : BitVec 3} (h : c.toNat < 4) :
    blocksOverride c = some (if c ≠ 0 then some (c.setWidth 2) else none) := by
  unfold blocksOverride
  by_cases h0 : c = 0
  · rw [if_pos h0, if_neg (not_not_intro h0)]
  · rw [if_neg h0, if_pos h, if_pos h0]

theorem blocksOverride_beyond {c : BitVec 3} (h : 4 ≤ c.toNat) : blocksOverride c = none := by
  revert c
  decide

/-! ## The request that the staging area spells -/

/-- The kind names a station. -/
def CommandKind.named (k : CommandKind) : Bool := decide (k ≠ .bcast) && decide (k ≠ .timesync)

theorem named_iff {k : CommandKind} (h : k ≠ .poll) : k.named = true ↔ k.code.toNat ≤ 4 := by
  cases k with
  | poll => exact absurd rfl h
  | read | write | probe | bcast | timesync => decide

/-- The request of this kind that the staging area spells, without its chain. -/
def State.spelled (s : State) (k : CommandKind) : Request :=
  let g := s.ru.staging
  { kind := k
    station := if k.named then some (Fin.ofNat 32 g.station.toNat) else none
    tag := g.tag
    retry := if g.retry.toNat < 8 then some (g.retry.setWidth 3) else none
    blocks := if k.named ∧ g.blocks ≠ 0 then some (g.blocks.setWidth 2) else none
    payload := []
    length := BitVec.ofNat 7 s.stagedLength }

section
variable {s : State}

theorem stagedRequest_spelled {k : CommandKind} (hpoll : k ≠ .poll)
    (hkind : s.ru.staging.kind = k.code) (hretry : s.ru.staging.retry.toNat < 9)
    (hnamed : k.named = true → s.ru.staging.blocks.toNat < 4 ∧
      (s.station (indexOf s.ru.staging.station)).state ≠ .unconfigured) :
    s.stagedRequest = some (s.spelled k) := by
  unfold State.stagedRequest
  simp only [hkind, requestKind_code hpoll, retryOverride_of hretry]
  cases k with
  | poll => exact absurd rfl hpoll
  | bcast | timesync => rfl
  | read | write | probe =>
    obtain ⟨hblocks, hstation⟩ := hnamed rfl
    simp only [blocksOverride_of hblocks, if_neg hstation]
    simp [State.spelled, CommandKind.named, indexOf]

/-- What the staging area spells when check 1 of R124 finds no operand wrong. -/
theorem stagedRequest_some {r : Request} (h : s.stagedRequest = some r) :
    ∃ k, k ≠ .poll ∧ s.ru.staging.kind = k.code ∧ s.ru.staging.retry.toNat < 9 ∧
      (k.named = true → s.ru.staging.blocks.toNat < 4 ∧
        (s.station (indexOf s.ru.staging.station)).state ≠ .unconfigured) ∧
      r = s.spelled k := by
  have hretry : s.ru.staging.retry.toNat < 9 := by
    by_contra hge
    simp [State.stagedRequest, retryOverride_beyond (not_lt.mp hge)] at h
  cases hkind : requestKind s.ru.staging.kind with
  | none => simp [State.stagedRequest, hkind] at h
  | some k =>
    obtain ⟨hpoll, hcode⟩ := requestKind_some hkind
    have hnamed : k.named = true → s.ru.staging.blocks.toNat < 4 ∧
        (s.station (indexOf s.ru.staging.station)).state ≠ .unconfigured := by
      intro hnamed
      by_contra hwrong
      have hnone : s.stagedRequest = none := by
        unfold State.stagedRequest
        simp only [hkind, retryOverride_of hretry]
        cases k with
        | poll => exact absurd rfl hpoll
        | bcast | timesync => cases hnamed
        | read | write | probe =>
          by_cases hblocks : s.ru.staging.blocks.toNat < 4
          · simp [blocksOverride_of hblocks, not_not.mp fun hne => hwrong ⟨hblocks, hne⟩]
          · simp [blocksOverride_beyond (not_lt.mp hblocks)]
      rw [hnone] at h
      cases h
    rw [stagedRequest_spelled hpoll hcode hretry hnamed, Option.some.injEq] at h
    exact ⟨k, hpoll, hcode, hretry, hnamed, h.symm⟩

/-! ## RQ_SUBMIT -/

theorem timesync_iff {k : CommandKind} : k.code.toNat = 6 ↔ k = .timesync := by
  cases k <;> decide

/-- A wrong operand answers BAD_OPERAND (R124, checks 1 and 2). -/
theorem rqSubmit_wrong (h : s.OperandWrong) : rqSubmit s = (s, .badOperand) := by
  cases hstaged : s.stagedRequest with
  | none => simp [rqSubmit, hstaged]
  | some r =>
    obtain ⟨k, hpoll, hcode, hretry, hnamed, rfl⟩ := stagedRequest_some hstaged
    have htimesync : k = .timesync ∧ 0 < s.stagedLength := by
      obtain hkind | hge | ⟨hle, hbad⟩ | ⟨hsix, hlen⟩ := h
      · refine absurd ?_ hkind
        rw [hcode]
        cases k with
        | poll => exact absurd rfl hpoll
        | read | write | probe | bcast | timesync => decide
      · omega
      · rw [hcode, ← named_iff hpoll] at hle
        obtain ⟨hblocks, hstation⟩ := hnamed hle
        rcases hbad with hge | hun
        · omega
        · exact absurd hun hstation
      · rw [hcode, timesync_iff] at hsix
        exact ⟨hsix, hlen⟩
    simp only [rqSubmit, hstaged]
    exact if_pos htimesync

/-- With no operand wrong, the request spelled goes through checks 3 to 5 (R124). -/
theorem rqSubmit_right (h : ¬s.OperandWrong) :
    ∃ k, k ≠ .poll ∧ s.ru.staging.kind = k.code ∧
      rqSubmit s =
        if s.slotsFull then (s, .full)
        else if s.queueFull then (s, .full)
        else
          match s.allocate ((s.stagedLength + 31) / 32) with
          | none => (s, .noBuffer)
          | some (chain, t) => ((acceptRequest (s.spelled k) chain t).settle, .done) := by
  simp only [State.OperandWrong, not_or] at h
  obtain ⟨hkind, hretry, hnamed, htimesync⟩ := h
  obtain ⟨k, hpoll, hcode⟩ := requestKind_of_range (not_not.mp hkind)
  have hstaged : s.stagedRequest = some (s.spelled k) := by
    refine stagedRequest_spelled hpoll hcode (by omega) fun hk => ?_
    rw [named_iff hpoll, ← hcode] at hk
    obtain ⟨hblocks, hstation⟩ := not_or.mp fun hbad => hnamed ⟨hk, hbad⟩
    exact ⟨not_le.mp hblocks, hstation⟩
  rw [hcode, timesync_iff] at htimesync
  refine ⟨k, hpoll, hcode, ?_⟩
  simp only [rqSubmit, hstaged]
  exact if_neg htimesync

theorem slotsFull_iff : s.slotsFull = true ↔ 32 ≤ s.cq.reserved + s.cq.ring.length := by
  simp [State.slotsFull]

theorem queueFull_iff :
    s.queueFull = false ↔
      if s.ru.staging.urgent then s.ru.urgent.length < 8 else s.ru.normal.length < 16 := by
  unfold State.queueFull
  split_ifs <;> simp

/-- The acceptance (R125). -/
theorem acceptRequest_eq (r : Request) (chain : Chain) (s : State) :
    acceptRequest r chain s =
      { s with
        fs := { s.fs with mem := Memory.storeFrom chain 0 s.ru.staging.payload s.fs.mem }
        cq := { s.cq with reserved := s.cq.reserved + 1 }
        ru :=
          { staging := Staging.cleared
            urgent :=
              if s.ru.staging.urgent then s.ru.urgent ++ [{ r with payload := chain }]
              else s.ru.urgent
            normal :=
              if s.ru.staging.urgent then s.ru.normal
              else s.ru.normal ++ [{ r with payload := chain }] } } := by
  unfold acceptRequest State.enqueue State.clearStaging
  cases s.ru.staging.urgent <;> rfl

end
end Sys2Proof.Machine

/-! PROOF. A payload copied into a chain reads back, and no other byte changes (R125, R158). -/

namespace Sys2Proof.Machine

section
variable {chain : Chain}

theorem chainAddress_eq_some {k a : Nat} :
    chainAddress chain k = some a ↔ ∃ b, chain[k / 32]? = some b ∧ b.val * 32 + k % 32 = a := by
  simp [chainAddress, Config.blockBytes]

/-- Each byte of a chain of different blocks has its own address. -/
theorem chainAddress_injective (hnodup : chain.Nodup) {j k a : Nat}
    (hj : chainAddress chain j = some a) (hk : chainAddress chain k = some a) : j = k := by
  obtain ⟨b, hb, rfl⟩ := chainAddress_eq_some.mp hj
  obtain ⟨c, hc, heq⟩ := chainAddress_eq_some.mp hk
  have hval : c.val = b.val := by omega
  obtain ⟨hltb, hgetb⟩ := List.getElem?_eq_some_iff.mp hb
  obtain ⟨hltc, hgetc⟩ := List.getElem?_eq_some_iff.mp hc
  have hindex : j / 32 = k / 32 := by
    refine hnodup.getElem_inj_iff.mp (?_ : chain[j / 32] = chain[k / 32])
    rw [hgetb, hgetc, Fin.ext hval]
  omega

theorem chainAddress_of_lt {k : Nat} (h : k < 32 * chain.length) : ∃ a, chainAddress chain k = some a := by
  have hlt : k / 32 < chain.length := by omega
  exact ⟨_, chainAddress_eq_some.mpr ⟨chain[k / 32], List.getElem?_eq_getElem hlt, rfl⟩⟩

/-- An address of no byte of the payload keeps its byte. -/
theorem read_storeFrom_of_ne {payload : List Byte} {m : Memory} {k a : Nat} (hm : m.wf = true)
    (h : ∀ j, k ≤ j → j < k + payload.length → chainAddress chain j ≠ some a) :
    (Memory.storeFrom chain k payload m).read a = m.read a := by
  induction payload generalizing m k with
  | nil => rfl
  | cons v payload ih =>
    rw [List.length_cons] at h
    have hrest := ih (m := m.storeAt chain k v) (k := k + 1) (Memory.storeAt_wf m chain k v hm)
      fun j hle hlt => h j (by omega) (by omega)
    rw [Memory.storeFrom, hrest, Memory.read_storeAt m chain k a v hm,
      if_neg (h k le_rfl (by omega))]

/-- A byte of the payload reads back at its address. -/
theorem read_storeFrom {payload : List Byte} {m : Memory} {k i a : Nat} {v : Byte} (hm : m.wf = true)
    (hnodup : chain.Nodup) (hv : payload[i]? = some v) (ha : chainAddress chain (k + i) = some a) :
    (Memory.storeFrom chain k payload m).read a = v := by
  induction payload generalizing m k i with
  | nil => cases hv
  | cons w payload ih =>
    have hwf := Memory.storeAt_wf m chain k w hm
    rw [Memory.storeFrom]
    cases i with
    | zero =>
      obtain rfl : w = v := by simpa using hv
      have hrest : ∀ j, k + 1 ≤ j → j < k + 1 + payload.length → chainAddress chain j ≠ some a := by
        intro j hle hlt hj
        have := chainAddress_injective hnodup ha hj
        omega
      rw [read_storeFrom_of_ne hwf hrest, Memory.read_storeAt m chain k a w hm]
      exact if_pos ha
    | succ i =>
      exact ih hwf (by simpa using hv) (by rwa [show k + 1 + i = k + (i + 1) by omega])

end
end Sys2Proof.Machine

namespace Sys2Proof.Proofs
open Sys2Proof.Machine

/-- Settles O18, check by check. -/
theorem rqSubmitRefusals : Obligations.RqSubmitRefusals := by
  unfold Obligations.RqSubmitRefusals
  intro s htaken
  have hfull (hright : ¬s.OperandWrong) (h : s.slotsFull = true ∨ s.queueFull = true) :
      exec .rqSubmit s = .next (s.answer 0x41 .full) := by
    obtain ⟨k, -, -, heq⟩ := rqSubmit_right hright
    refine command_answers htaken (heq.trans ?_)
    rcases h with h | h <;> simp [h]
  have hqueue : s.queueFull = true ↔
      ¬if s.ru.staging.urgent then s.ru.urgent.length < 8 else s.ru.normal.length < 16 := by
    rw [← queueFull_iff, Bool.not_eq_false]
  refine ⟨fun hwrong => command_answers htaken (rqSubmit_wrong hwrong),
    fun hright hslots => hfull hright (.inl (slotsFull_iff.mpr hslots)),
    fun hright hurgent hlen => hfull hright (.inr (hqueue.mpr ?_)),
    fun hright hurgent hlen => hfull hright (.inr (hqueue.mpr ?_)),
    fun hright hslots hroom hblocks => ?_⟩
  · simpa [hurgent] using hlen
  · simpa [hurgent] using hlen
  · obtain ⟨k, -, -, heq⟩ := rqSubmit_right hright
    refine command_answers htaken (heq.trans ?_)
    rw [if_neg (mt slotsFull_iff.mp (not_le.mpr hslots)), if_neg (mt hqueue.mp (not_not_intro hroom)),
      allocate_refused s _ hblocks]

/-- Settles O19: the request spelled by the staging area, and the bytes of its payload. -/
theorem rqSubmitAccepts : Obligations.RqSubmitAccepts := by
  unfold Obligations.RqSubmitAccepts
  refine ⟨fun s k htaken hright hkind hslots hroom hblocks => ?_, fun s => ⟨rfl, rfl⟩, rfl,
    fun m chain payload hm hnodup hlen => ⟨fun k v hv => ?_, fun a ha => ?_, fun k b hb hk => ?_⟩⟩
  · obtain ⟨k', hpoll, hcode, heq⟩ := rqSubmit_right hright
    obtain rfl : k' = k := by
      rw [hkind] at hcode
      revert hcode
      cases k <;> cases k' <;> decide
    refine command_answers htaken (heq.trans ?_)
    rw [if_neg (mt slotsFull_iff.mp (not_le.mpr hslots)),
      if_neg (by rw [queueFull_iff.mpr hroom]; exact Bool.false_ne_true), allocate_met s _ hblocks]
    simp only [acceptRequest_eq]
    rfl
  · have hlt : k < payload.length := (List.getElem?_eq_some_iff.mp hv).1
    obtain ⟨a, ha⟩ := chainAddress_of_lt (chain := chain) (k := k) (by omega)
    rw [Memory.chainByte, ha]
    exact read_storeFrom hm hnodup hv (by rwa [Nat.zero_add])
  · refine read_storeFrom_of_ne hm fun j _ _ hj => ?_
    obtain ⟨b, hb, rfl⟩ := chainAddress_eq_some.mp hj
    exact ha b (List.mem_of_getElem? hb) (by omega)
  · refine read_storeFrom_of_ne hm fun j _ hlt hj => ?_
    have := chainAddress_injective hnodup hj (chainAddress_eq_some.mpr ⟨b, hb, rfl⟩)
    omega

end Sys2Proof.Proofs

/-! PROOF. RQ_CANCEL (R57, R131 to R134) and RQ_FLUSH (R136, R137). -/

namespace Sys2Proof.Machine

/-! ## The first of a list with a property -/

section
variable {α : Type} {p : α → Bool} {before after : List α} {a : α}

theorem find?_first (hbefore : ∀ x ∈ before, p x = false) (ha : p a = true) :
    (before ++ a :: after).find? p = some a :=
  List.find?_eq_some_iff_append.mpr ⟨ha, before, after, rfl, fun x hx => by simp [hbefore x hx]⟩

theorem eraseP_first (hbefore : ∀ x ∈ before, p x = false) (ha : p a = true) :
    (before ++ a :: after).eraseP p = before ++ after := by
  rw [List.eraseP_append_right _ fun x hx => by simp [hbefore x hx], List.eraseP_cons_of_pos ha]

theorem find?_absent {l : List α} (h : ∀ x ∈ l, p x = false) : l.find? p = none :=
  List.find?_eq_none.mpr fun x hx => by simp [h x hx]
end

theorem hasTag_false {tag : Word} {l : List Request} (h : ∀ x ∈ l, x.tag ≠ tag) :
    ∀ x ∈ l, x.hasTag tag = false := fun x hx => decide_eq_false (h x hx)

theorem deferred_hasTag_false {tag : Word} {l : List Deferred}
    (h : ∀ x ∈ l, x.txn.origin ≠ .request tag) : ∀ x ∈ l, x.txn.hasTag tag = false :=
  fun x hx => decide_eq_false (h x hx)

/-! ## RQ_CANCEL -/

section
variable {s : State}

theorem endDeferred_of_request (s : State) {x : Transaction} {tag : Word} (o : ReqOutcome)
    (cancel : Bool) (h : x.origin = .request tag) :
    s.endDeferred x o cancel =
      { s with
        fs := { s.fs with free := s.fs.free ++ x.payload }
        cq :=
          { ring := s.cq.ring ++ [{ x.record tag o cancel with stamp := s.tb.counter }]
            reserved := s.cq.reserved - 1 }
        eu := { s.eu with latches := s.eu.latches ||| 0x001#12 } } := by
  simp only [State.endDeferred, h]
  rfl

theorem endDeferred_of_item (s : State) {x : Transaction} (o : ReqOutcome) (cancel : Bool)
    (h : x.isRequest = false) : s.endDeferred x o cancel = s := by
  cases horigin : x.origin with
  | request tag => simp [Transaction.isRequest, horigin] at h
  | pollSlot | readSlot | probe => simp only [State.endDeferred, horigin]

/-- An entry leaves the deferred list by its name, which no other has. -/
theorem removeDeferred_first {before after : List Deferred} {d : Deferred} (hwf : s.DeferredWf)
    (h : s.le.deferred = before ++ d :: after) :
    s.removeDeferred d.id =
      { s with
        le := { s.le with
          deferred := before ++ after
          expired := s.le.expired.filter fun j => decide (j ≠ d.id) } } := by
  obtain ⟨-, hnodup, -⟩ := hwf
  rw [h, List.map_append, List.map_cons, List.nodup_middle, List.nodup_cons, ← List.map_append,
    List.mem_map] at hnodup
  have hne : ∀ x ∈ before ++ after, x.id ≠ d.id := fun x hx heq => hnodup.1 ⟨x, hx, heq⟩
  have hfilter : (before ++ d :: after).filter (fun x => decide (x.id ≠ d.id)) = before ++ after := by
    rw [List.filter_append, List.filter_cons_of_neg (by simp), ← List.filter_append]
    exact List.filter_eq_self.mpr fun x hx => decide_eq_true (hne x hx)
  unfold State.removeDeferred
  rw [h, hfilter]

theorem rqCancel_urgent {before after : List Request} {r : Request}
    (h : s.ru.urgent = before ++ r :: after) (hbefore : ∀ x ∈ before, x.tag ≠ s.ru.staging.tag)
    (hr : r.tag = s.ru.staging.tag) :
    rqCancel s =
      ((({ s with ru := { s.ru with urgent := before ++ after } } : State).endQueued r .cancelled
        true).settle, .done) := by
  have hfirst := hasTag_false hbefore
  have htag : r.hasTag s.ru.staging.tag = true := decide_eq_true hr
  simp only [rqCancel, h, find?_first hfirst htag, eraseP_first hfirst htag]

theorem rqCancel_normal {before after : List Request} {r : Request}
    (hurgent : ∀ x ∈ s.ru.urgent, x.tag ≠ s.ru.staging.tag)
    (h : s.ru.normal = before ++ r :: after) (hbefore : ∀ x ∈ before, x.tag ≠ s.ru.staging.tag)
    (hr : r.tag = s.ru.staging.tag) :
    rqCancel s =
      ((({ s with ru := { s.ru with normal := before ++ after } } : State).endQueued r .cancelled
        true).settle, .done) := by
  have hfirst := hasTag_false hbefore
  have htag : r.hasTag s.ru.staging.tag = true := decide_eq_true hr
  simp only [rqCancel, find?_absent (hasTag_false hurgent), h, find?_first hfirst htag,
    eraseP_first hfirst htag]

theorem rqCancel_deferred {before after : List Deferred} {d : Deferred}
    (hurgent : ∀ x ∈ s.ru.urgent, x.tag ≠ s.ru.staging.tag)
    (hnormal : ∀ x ∈ s.ru.normal, x.tag ≠ s.ru.staging.tag)
    (h : s.le.deferred = before ++ d :: after)
    (hbefore : ∀ x ∈ before, x.txn.origin ≠ .request s.ru.staging.tag)
    (hd : d.txn.origin = .request s.ru.staging.tag) :
    rqCancel s = (((s.removeDeferred d.id).endDeferred d.txn .cancelled true).settle, .done) := by
  have htag : d.txn.hasTag s.ru.staging.tag = true := decide_eq_true hd
  simp only [rqCancel, find?_absent (hasTag_false hurgent), find?_absent (hasTag_false hnormal), h,
    find?_first (deferred_hasTag_false hbefore) htag]

theorem rqCancel_current (hurgent : ∀ x ∈ s.ru.urgent, x.tag ≠ s.ru.staging.tag)
    (hnormal : ∀ x ∈ s.ru.normal, x.tag ≠ s.ru.staging.tag)
    (hdeferred : ∀ d ∈ s.le.deferred, d.txn.origin ≠ .request s.ru.staging.tag) :
    rqCancel s = cancelCurrent s := by
  simp only [rqCancel, find?_absent (hasTag_false hurgent), find?_absent (hasTag_false hnormal),
    find?_absent (deferred_hasTag_false hdeferred)]

variable {x : Transaction}

theorem cancelCurrent_again (h : s.le.current = some x)
    (horigin : x.origin = .request s.ru.staging.tag) (hcancel : x.cancel = true) :
    cancelCurrent s = (s, .already) := by
  simp [cancelCurrent, h, Transaction.hasTag, horigin, hcancel]

theorem cancelCurrent_marks (h : s.le.current = some x)
    (horigin : x.origin = .request s.ru.staging.tag) (hcancel : x.cancel = false)
    (hstate : s.le.state ≠ .holding) :
    cancelCurrent s =
      ({ s with le := { s.le with current := some { x with cancel := true } } }, .done) := by
  simp [cancelCurrent, h, Transaction.hasTag, horigin, hcancel, hstate]

theorem cancelCurrent_ends (h : s.le.current = some x)
    (horigin : x.origin = .request s.ru.staging.tag) (hcancel : x.cancel = false)
    (hstate : s.le.state = .holding) :
    cancelCurrent s =
      ((endTransaction { x with cancel := true } x.roundResult s).settle, .done) := by
  simp [cancelCurrent, h, Transaction.hasTag, horigin, hcancel, hstate, Transaction.roundResult]

theorem cancelCurrent_absent
    (h : ∀ x, s.le.current = some x → x.origin ≠ .request s.ru.staging.tag) :
    cancelCurrent s = (s, .notFound) := by
  cases hcurrent : s.le.current with
  | none => simp [cancelCurrent, hcurrent]
  | some x => simp [cancelCurrent, hcurrent, Transaction.hasTag, h x hcurrent]
end

/-! ## RQ_FLUSH -/

/-- Records posted and blocks freed, as several requests that end one after another leave them. -/
def State.posting (s : State) (blocks : Chain) (records : List Record) : State :=
  { s with
    fs := { s.fs with free := s.fs.free ++ blocks }
    cq := { ring := s.cq.ring ++ records, reserved := s.cq.reserved - records.length }
    eu := { s.eu with
      latches := if records.length = 0 then s.eu.latches else s.eu.latches ||| 0x001#12 } }

theorem State.posting_nil (s : State) : s.posting [] [] = s := by
  simp [State.posting]

theorem State.posting_posting (s : State) (b c : Chain) (q r : List Record) :
    (s.posting b q).posting c r = s.posting (b ++ c) (q ++ r) := by
  have hlatches : (if r.length = 0 then (s.posting b q).eu.latches
      else (s.posting b q).eu.latches ||| 0x001#12) =
      if (q ++ r).length = 0 then s.eu.latches else s.eu.latches ||| 0x001#12 := by
    cases q <;> cases r <;> simp [State.posting, BitVec.or_assoc]
  unfold State.posting at hlatches ⊢
  simp only [hlatches, List.append_assoc, List.length_append, Nat.sub_sub]

/-- The tag of a request. -/
def Transaction.tag (t : Transaction) : Word :=
  match t.origin with
  | .request tag => tag
  | .pollSlot | .readSlot | .probe => 0

theorem Transaction.tag_of_origin {x : Transaction} {tag : Word} (h : x.origin = .request tag) :
    x.tag = tag := by simp [Transaction.tag, h]

/-- The record of a queued request that a flush ends. -/
def Request.aborted (r : Request) (stamp : Stamp) : Record :=
  { r.record .aborted false with stamp := stamp }

/-- The record of a deferred request that a flush ends. -/
def Deferred.aborted (d : Deferred) (stamp : Stamp) : Record :=
  { d.txn.record d.txn.tag .aborted false with stamp := stamp }

theorem abortQueued_eq (l : List Request) (s : State) :
    abortQueued l s =
      s.posting (l.flatMap Request.payload) (l.map fun r => r.aborted s.tb.counter) := by
  induction l generalizing s with
  | nil => exact s.posting_nil.symm
  | cons r l ih =>
    have hone : s.endQueued r .aborted false = s.posting r.payload [r.aborted s.tb.counter] := rfl
    rw [abortQueued, ih, hone]
    exact State.posting_posting s _ _ _ _

theorem abortDeferred_eq (l : List Deferred) (s : State) :
    abortDeferred l s =
      s.posting ((l.filter fun d => d.txn.isRequest).flatMap fun d => d.txn.payload)
        ((l.filter fun d => d.txn.isRequest).map fun d => d.aborted s.tb.counter) := by
  induction l generalizing s with
  | nil => exact s.posting_nil.symm
  | cons d l ih =>
    rw [abortDeferred, ih]
    cases hrequest : d.txn.isRequest with
    | false =>
      rw [endDeferred_of_item s _ _ hrequest, List.filter_cons_of_neg (by simp [hrequest])]
    | true =>
      rw [List.filter_cons_of_pos (p := fun d : Deferred => d.txn.isRequest) hrequest]
      cases horigin : d.txn.origin with
      | pollSlot | readSlot | probe => simp [Transaction.isRequest, horigin] at hrequest
      | request tag =>
        have hone : s.endDeferred d.txn .aborted false =
            s.posting d.txn.payload [d.aborted s.tb.counter] := by
          rw [endDeferred_of_request s _ _ horigin, Deferred.aborted,
            Transaction.tag_of_origin horigin]
          rfl
        rw [hone]
        exact State.posting_posting s _ _ _ _

/-- What RQ_FLUSH ALL leaves before the arbiter chooses again. -/
theorem flushAll_eq (s : State) :
    let requests := s.le.deferred.filter fun d => d.txn.isRequest
    flushDeferred (flushNormal (flushUrgent s)) =
      ({ s with
        ru := { s.ru with urgent := [], normal := [] }
        le := { s.le with deferred := [], expired := [] } } : State).posting
        (s.ru.urgent.flatMap Request.payload ++ s.ru.normal.flatMap Request.payload ++
          requests.flatMap fun d => d.txn.payload)
        ((s.ru.urgent.map fun r => r.aborted s.tb.counter) ++
          (s.ru.normal.map fun r => r.aborted s.tb.counter) ++
          requests.map fun d => d.aborted s.tb.counter) := by
  intro requests
  rw [← State.posting_posting, ← State.posting_posting]
  unfold flushDeferred flushNormal flushUrgent
  rw [abortDeferred_eq, abortQueued_eq, abortQueued_eq]
  rfl

theorem rqFlush_urgent {s t : State} (h : flushUrgent s = t) : rqFlush 1 s = (t.settle, .done) := by
  rw [← h]
  rfl

theorem rqFlush_normal {s t : State} (h : flushNormal s = t) : rqFlush 2 s = (t.settle, .done) := by
  rw [← h]
  rfl

theorem rqFlush_all {s t : State} (h : flushDeferred (flushNormal (flushUrgent s)) = t) :
    rqFlush 3 s = (t.settle, .done) := by
  rw [← h]
  rfl

end Sys2Proof.Machine

namespace Sys2Proof.Proofs
open Sys2Proof.Machine

/-- Settles O20, by where the tag is found. -/
theorem rqCancel : Obligations.RqCancel := by
  unfold Obligations.RqCancel
  refine ⟨fun s htaken => ⟨fun l1 r l2 hurgent hbefore hr => ?_,
      fun l1 r l2 hurgent hnormal hbefore hr => ?_,
      fun l1 d l2 hwf hurgent hnormal hdeferred hbefore hd => ?_⟩,
    fun s htaken => ?_,
    fun r o cancel => rfl, fun t tag o cancel => rfl, fun s r => rfl⟩
  · exact command_answers htaken (rqCancel_urgent hurgent hbefore hr)
  · exact command_answers htaken (rqCancel_normal hurgent hnormal hbefore hr)
  · have hcancel := rqCancel_deferred hurgent hnormal hdeferred hbefore hd
    rw [removeDeferred_first hwf hdeferred, endDeferred_of_request _ _ _ hd] at hcancel
    exact command_answers htaken hcancel
  · intro tag hurgent hnormal hdeferred
    have hcurrent := rqCancel_current hurgent hnormal hdeferred
    exact ⟨fun x h horigin hcancel =>
        command_answers htaken (hcurrent.trans (cancelCurrent_again h horigin hcancel)),
      fun x h horigin hcancel hstate =>
        command_answers htaken (hcurrent.trans (cancelCurrent_marks h horigin hcancel hstate)),
      fun x h horigin hcancel hstate =>
        command_answers htaken (hcurrent.trans (cancelCurrent_ends h horigin hcancel hstate)),
      fun h => command_answers htaken (hcurrent.trans (cancelCurrent_absent h))⟩

/-- Settles O21: each queue emptied is one posting of its records. -/
theorem rqFlush : Obligations.RqFlush := by
  unfold Obligations.RqFlush
  intro s htaken aborted requests posted
  refine ⟨?_, ?_, requests.map fun d => d.aborted s.tb.counter, ?_, List.length_map _,
    fun k d tag hk horigin => ?_⟩
  · rw [← List.length_map fun r : Request => r.aborted s.tb.counter]
    exact command_answers htaken (rqFlush_urgent (abortQueued_eq s.ru.urgent _))
  · rw [← List.length_map fun r : Request => r.aborted s.tb.counter]
    exact command_answers htaken (rqFlush_normal (abortQueued_eq s.ru.normal _))
  · refine (command_answers (code := 0x43) htaken (rqFlush_all (flushAll_eq s))).trans ?_
    simp only [State.posting, List.length_append, List.length_map, ← List.append_assoc]
    rfl
  · rw [List.getElem?_map, hk, Option.map_some, Deferred.aborted, Transaction.tag_of_origin horigin]

end Sys2Proof.Proofs

/-! PROOF. The tick and the rows that count in ticks (R52, R102 to R104, R163). -/

namespace Sys2Proof.Machine

section
variable {s : State}

/-! ## The tick -/

theorem countHoldoffs_eq (s : State) :
    s.countHoldoffs =
      { s with
        le := { s.le with
          deferred := s.le.deferred.map fun d =>
            { d with holdoff := if d.holdoff = 0 then 0 else d.holdoff - 1 }
          expired := s.le.expired ++
            (s.le.deferred.filter fun d => decide (d.holdoff = 1)).map Deferred.id } } := by
  have hcount : Deferred.countDown =
      fun d => { d with holdoff := if d.holdoff = 0 then 0 else d.holdoff - 1 } := by
    funext d
    unfold Deferred.countDown
    split_ifs with h
    · rw [← h]
    · rfl
  unfold State.countHoldoffs
  rw [hcount]

/-- The state as a tick hands it to the timers (R163). -/
def State.ticked (s : State) : State :=
  { s with tb := { s.tb with prescaler := 0, counter := s.tb.counter + 1 } }

theorem tick_apart (h : ¬(s.ticked.holdoffDue = true ∧ s.ticked.cycleDue = true)) :
    tick s = holdoffTick (cycleTick s.ticked) :=
  if_neg (by rwa [Bool.and_eq_true])

theorem tick_together (hholdoff : s.ticked.holdoffDue = true) (hcycle : s.ticked.cycleDue = true) :
    tick s = cycleTick (holdoffTick { s.ticked with choice := s.ticked.choice + 1 }) ∨
    tick s = holdoffTick (cycleTick { s.ticked with choice := s.ticked.choice + 1 }) := by
  have hboth : (s.ticked.holdoffDue && s.ticked.cycleDue) = true := by simp [hholdoff, hcycle]
  have htick : tick s = if s.ticked.choose.1 then cycleTick (holdoffTick s.ticked.choose.2)
      else holdoffTick (cycleTick s.ticked.choose.2) := if_pos hboth
  rw [htick]
  exact choose_either s.ticked (fun u => cycleTick (holdoffTick u)) fun u => holdoffTick (cycleTick u)

theorem holdoffDue_iff : s.holdoffDue = true ↔ ∃ d ∈ s.le.deferred, d.holdoff = 1 := by
  simp [State.holdoffDue]

theorem cycleDue_iff :
    s.cycleDue = true ↔
      (∃ n, s.cu.timer = some n ∧ n.toNat ≤ 1) ∨ (s.cu.timer = none ∧ s.cu.state = .waiting) := by
  cases h : s.cu.timer <;> simp [State.cycleDue, h]

/-! ## What a tick does to the Cycle Unit -/

theorem loadedTimer_of_stopped (h : s.cu.timer = none) :
    s.loadedTimer = if s.le.params.period = 0 then none else some s.le.params.period := if_pos h

theorem tickCycle_counts {n : BitVec 16} (h : s.cu.timer = some n) (hn : 1 < n.toNat) :
    s.tickCycle = { s with cu := { s.cu with timer := some (n - 1) } } := by
  simp [State.tickCycle, h, hn]

theorem tickCycle_expires {n : BitVec 16} (h : s.cu.timer = some n) (hn : n.toNat ≤ 1) :
    s.tickCycle = s.expirePeriod := by
  simp [State.tickCycle, h, hn]

theorem tickCycle_starts (h : s.cu.timer = none) (hstate : s.cu.state = .waiting) :
    s.tickCycle =
      ({ s with
        cu := { s.cu with
          timer := if s.le.params.period = 0 then none else some s.le.params.period } }
        : State).cycleStart := by
  rw [← loadedTimer_of_stopped h, ← cycleStartLoading_eq]
  simp [State.tickCycle, h, hstate]

theorem tickCycle_rests (h : s.cu.timer = none) (hstate : s.cu.state ≠ .waiting) :
    s.tickCycle = s := by
  simp [State.tickCycle, h, hstate]

theorem expirePeriod_halted (h : s.cu.state = .halted) : s.expirePeriod = s.loadTimer := by
  have hload : s.loadTimer.cu.state = .halted := h
  simp only [State.expirePeriod, hload]

theorem expirePeriod_waiting (h : s.cu.state = .waiting) : s.expirePeriod = s.loadTimer.cycleStart := by
  have hload : s.loadTimer.cu.state = .waiting := h
  simp only [State.expirePeriod, hload]

theorem expirePeriod_overrun (h : s.cu.state = .walking ∨ s.cu.state = .probePhase) :
    s.expirePeriod =
      { s with
        cu := { s.cu with
          timer := if s.le.params.period = 0 then none else some s.le.params.period
          startPending := true }
        eu := { s.eu with latches := s.eu.latches ||| 0x020#12 } } := by
  have hload : s.loadTimer.cu.state = s.cu.state := rfl
  rcases h with h | h <;>
  · simp only [State.expirePeriod, hload, h]
    rfl

/-! ## The rows -/

theorem holdoffEvent_due {place : Fin 4} {d : Deferred} (h : s.le.deferred[place.val]? = some d)
    (hholdoff : d.holdoff ≠ 0) : holdoffEvent place s = (s.expireEntry d.id).settle := by
  simp only [holdoffEvent, h]
  exact if_neg hholdoff

theorem holdoffEvent_none {place : Fin 4}
    (h : ∀ d, s.le.deferred[place.val]? = some d → d.holdoff = 0) : holdoffEvent place s = s := by
  unfold holdoffEvent
  split
  · rename_i d hd
    exact if_pos (h d hd)
  · rfl

theorem periodEvent_running (h : s.cu.timer ≠ none) : periodEvent s = s.expirePeriod.settle :=
  if_pos (Option.isSome_iff_ne_none.mpr h)

theorem periodEvent_stopped (h : s.cu.timer = none) : periodEvent s = s := if_neg (by simp [h])

theorem nextTickEvent_waiting (h : s.cu.timer = none) (hstate : s.cu.state = .waiting) :
    nextTickEvent s = s.cycleStartLoading.settle := if_pos ⟨hstate, h⟩

theorem nextTickEvent_none (h : s.cu.timer ≠ none ∨ s.cu.state ≠ .waiting) : nextTickEvent s = s :=
  if_neg fun ⟨hstate, htimer⟩ => h.elim (fun hne => hne htimer) fun hne => hne hstate

/-- An event that counted time brings about, while it passes. -/
theorem timed_next {f : State → State} {t : State} (hruns : s.timeRuns = true) (h : f s = t) :
    (Host.Outcome.next (timed f s) : StepOutcome) = .next t := by
  rw [timed_runs f s hruns, h]

end
end Sys2Proof.Machine

namespace Sys2Proof.Proofs
open Sys2Proof.Machine

/-- Settles O33: what falls together at the tick comes in either order. -/
theorem tickRow : Obligations.TickRow := by
  unfold Obligations.TickRow
  intro s hruns t u counted
  have hrow (t : State) (h : tick s = t) : exec .tick s = .next t := timed_next hruns h
  have hcounted : counted = State.countHoldoffs := funext fun x => (countHoldoffs_eq x).symm
  rw [hcounted]
  exact ⟨fun hapart => hrow _ (tick_apart hapart),
    fun hholdoff hcycle => (tick_together hholdoff hcycle).imp (hrow _) (hrow _),
    holdoffDue_iff (s := s.ticked), cycleDue_iff (s := s.ticked)⟩

/-- Settles O34, row by row and timer by timer. -/
theorem tickTimers : Obligations.TickTimers := by
  unfold Obligations.TickTimers
  refine ⟨fun s hruns => ⟨fun place d h hholdoff => timed_next hruns (holdoffEvent_due h hholdoff),
    fun place h => timed_next hruns (holdoffEvent_none h),
    fun h => timed_next hruns (periodEvent_running h),
    fun h => timed_next hruns (periodEvent_stopped h), fun h hstate => ?_,
    fun h => timed_next hruns (nextTickEvent_none h)⟩, fun s => ⟨fun n h hn => tickCycle_counts h hn,
      fun n h hn => tickCycle_expires h hn, tickCycle_starts, tickCycle_rests, expirePeriod_halted,
      expirePeriod_waiting, expirePeriod_overrun⟩⟩
  rw [← loadedTimer_of_stopped h, ← cycleStartLoading_eq]
  exact timed_next hruns (nextTickEvent_waiting h hstate)

end Sys2Proof.Proofs

/-! PROOF. The rows of the quiet monitor and of the line timers (R14, R43, R44, R50) and START_REPORT
(R3, R15, R40). -/

namespace Sys2Proof.Machine

section
variable {s : State}

/-! ## QUIET_REPORT and ACTIVE_REPORT -/

theorem quietReport_rests (h : s.le.state ≠ .holding ∨ s.le.current = none) :
    quietReport s = ({ s with li := { s.li with monitor := .quiet } } : State).settle := by
  unfold quietReport
  simp only
  split
  · rename_i x hstate hcurrent
    rcases h with hne | hnone
    · exact absurd hstate hne
    · exact nomatch hnone.symm.trans hcurrent
  · rfl

theorem quietReport_holding {x : Transaction} (hstate : s.le.state = .holding)
    (hcurrent : s.le.current = some x) :
    quietReport s =
      (nextAttempt x { s with li := { s.li with monitor := .quiet } }).settle := by
  simp only [quietReport, hstate, hcurrent]

theorem quietReport_lost {x : Transaction} (hstate : s.le.state = .holding)
    (hcurrent : s.le.current = some x) (hlost : s.targetLost x = true) :
    quietReport s =
      (endTransaction x x.roundResult { s with li := { s.li with monitor := .quiet } }).settle := by
  rw [quietReport_holding hstate hcurrent, nextAttempt_lost]
  exact hlost

theorem quietReport_starts {x : Transaction} (hstate : s.le.state = .holding)
    (hcurrent : s.le.current = some x) (hlost : s.targetLost x = false) :
    quietReport s =
      (startAttempt { x with attempts := x.attempts + 1 }
        { s with li := { s.li with monitor := .quiet } }).settle := by
  rw [quietReport_holding hstate hcurrent, nextAttempt_starts]
  exact hlost

theorem quietEvent_none (h : s.li.monitor = .quiet ∨ s.li.lde = true) : quietEvent s = s := by
  refine if_neg fun ⟨hmonitor, hlde⟩ => ?_
  rcases h with h | h
  · exact nomatch h.symm.trans hmonitor
  · exact nomatch h.symm.trans hlde

theorem activeEvent_quiet (h : s.li.monitor = .quiet) :
    activeEvent s = { s with li := { s.li with monitor := .active, quietTimer := 0 } } := if_pos h

theorem activeEvent_active (h : s.li.monitor = .active) : activeEvent s = s :=
  if_neg (by simp [h])

/-! ## The target of HOLDING (R50) -/

theorem polled_iff (st : StationState) : st.polled = true ↔ st = .online ∨ st = .degraded := by
  cases st <;> simp [StationState.polled]

theorem sought_iff (st : StationState) : st.sought = true ↔ st = .probing ∨ st = .offline := by
  cases st <;> simp [StationState.sought]

variable {x : Transaction} {i : Fin 32}

theorem targetLost_of_none (h : x.target = none) : s.targetLost x = false := by
  simp [State.targetLost, h]

theorem targetLost_request {tag : Word} (h : x.target = some i) (horigin : x.origin = .request tag) :
    s.targetLost x = true ↔ (s.station i).state = .disabled := by
  simp [State.targetLost, h, horigin]

theorem targetLost_slot (h : x.target = some i)
    (horigin : x.origin = .pollSlot ∨ x.origin = .readSlot) :
    s.targetLost x = true ↔ (s.station i).state ≠ .online ∧ (s.station i).state ≠ .degraded := by
  have hlost : s.targetLost x = !(s.station i).state.polled := by
    rcases horigin with horigin | horigin <;> simp [State.targetLost, h, horigin]
  rw [hlost, Bool.not_eq_true', ← Bool.not_eq_true, polled_iff, not_or]

theorem targetLost_probe (h : x.target = some i) (horigin : x.origin = .probe) :
    s.targetLost x = true ↔ (s.station i).state ≠ .probing ∧ (s.station i).state ≠ .offline := by
  have hlost : s.targetLost x = !(s.station i).state.sought := by
    simp [State.targetLost, h, horigin]
  rw [hlost, Bool.not_eq_true', ← Bool.not_eq_true, sought_iff, not_or]

/-! ## The line timers -/

theorem finishAttempt_current (r : Result) (h : s.le.current = some x) :
    finishAttempt r s = attemptEnds x r s := by
  simp [finishAttempt, h]

theorem expireWindow_pending (h : s.le.attempt.pending = true) :
    expireWindow s =
      { s with le := { s.le with
        attempt := { s.le.attempt with window := none, windowOut := true } } } := if_pos h

theorem expireWindow_ends (h : s.le.attempt.pending = false) (hcurrent : s.le.current = some x) :
    expireWindow s = attemptEnds x (if s.le.attempt.stray then .corrupt .stray else .noReply) s :=
  (if_neg (by simp [h])).trans (finishAttempt_current _ hcurrent)

theorem windowEvent_none (h : s.le.state ≠ .awaiting ∨ s.le.attempt.window = none) :
    windowEvent s = s :=
  if_neg fun ⟨hstate, hsome⟩ =>
    h.elim (fun hne => hne hstate) fun hnone => by simp [hnone] at hsome

theorem gapEvent_none (h : s.le.state ≠ .receiving ∨ s.le.attempt.gap = none) : gapEvent s = s :=
  if_neg fun ⟨hstate, hsome⟩ =>
    h.elim (fun hne => hne hstate) fun hnone => by simp [hnone] at hsome

/-! ## START_REPORT -/

theorem startEvent_hunting {w : Option (Nat × Shift)} (noise : Bool)
    (h : s.li.pastLastStopBit.rx = .hunting w) :
    startEvent noise s =
      startReport { votes := [], bits := [false], noise := noise }
        { s with li := { s.li.pastLastStopBit.goActive with lastSample := false } } := by
  simp only [startEvent, h]

theorem startEvent_none (noise : Bool) (h : ∀ w, s.li.pastLastStopBit.rx ≠ .hunting w) :
    startEvent noise s = s := by
  cases hrx : s.li.pastLastStopBit.rx with
  | hunting w => exact absurd hrx (h w)
  | assembling _ _ _ | heldLow _ _ _ | echoing _ => simp only [startEvent, hrx]

variable {h : Shift}

/-- In SENDING and AWAITING the character is pending (R40, R43). -/
theorem startReport_pending (hstate : s.le.state = .sending ∨ s.le.state = .awaiting) :
    startReport h s =
      { s with
        li := { s.li with rx := .assembling 9 h false }
        le := { s.le with attempt := { s.le.attempt with pending := true } } } := by
  rcases hstate with hstate | hstate <;>
    simp [startReport, hstate, EngineState.listens, State.startTaken]

/-- In RECEIVING the gap timer stops too (R44). -/
theorem startReport_receiving (hstate : s.le.state = .receiving) :
    startReport h s =
      { s with
        li := { s.li with rx := .assembling 9 h false }
        le := { s.le with attempt := { s.le.attempt with pending := true, gap := none } } } := by
  simp [startReport, hstate, EngineState.listens, State.startTaken]

theorem startReport_stopped (hstate : s.le.state = .stopped) :
    startReport h s = { s with li := { s.li with rx := .assembling 9 h true } } := by
  simp [startReport, hstate, EngineState.listens, State.raiseIf]

/-- In the other states the start is foreign traffic (R15). -/
theorem startReport_foreign (hstate : s.le.state = .idle ∨ s.le.state = .holding ∨
    s.le.state = .turnaround ∨ s.le.state = .breaking) :
    startReport h s =
      { s with
        li := { s.li with rx := .assembling 9 h true }
        eu := { s.eu with latches := s.eu.latches ||| 0x040#12 } } := by
  rcases hstate with hstate | hstate | hstate | hstate <;>
    simp [startReport, hstate, EngineState.listens, State.raiseIf, State.raise, Event.bit,
      Event.number]

/-! ## The end of the last stop bit (R9, R11) -/

variable {l : LineInterface}

theorem pastLastStopBit_ends {c : TxChar} {n : Nat} {framing : Bool}
    (htx : l.tx = .sending c n (some framing)) (hsupplied : l.supplied = none) :
    l.pastLastStopBit =
      { l with
        tx := .releaseBit 0
        rx := if framing then .heldLow 0 [] false else .hunting none } := by
  simp [LineInterface.pastLastStopBit, htx, hsupplied, LineInterface.endStopBit]

theorem pastLastStopBit_else
    (h : (∀ c n framing, l.tx ≠ .sending c n (some framing)) ∨ l.supplied ≠ none) :
    l.pastLastStopBit = l := by
  unfold LineInterface.pastLastStopBit
  split
  · rename_i htx hsupplied
    rcases h with hne | hne
    · exact absurd htx (hne _ _ _)
    · exact absurd hsupplied hne
  · rfl

end
end Sys2Proof.Machine

namespace Sys2Proof.Proofs
open Sys2Proof.Machine

/-- Settles O35, by what the engine holds. -/
theorem quietAndActiveRows : Obligations.QuietAndActiveRows := by
  unfold Obligations.QuietAndActiveRows
  refine ⟨fun s hruns => ?_, fun s => ⟨quietReport_rests, fun x hstate hcurrent =>
    ⟨quietReport_lost hstate hcurrent, quietReport_starts hstate hcurrent⟩⟩, fun s x =>
    ⟨targetLost_of_none, fun i h => ⟨fun tag => targetLost_request h, targetLost_slot h,
      targetLost_probe h⟩⟩⟩
  have hdue {t : State} (hmonitor : s.li.monitor = .active) (hlde : s.li.lde = false)
      (h : quietReport { s with li := { s.li with quietTimer := s.le.params.quiet.toNat * 176 } } = t) :
      exec .quietReport s = .next t :=
    timed_next hruns ((quietEvent_due s hmonitor hlde).trans h)
  exact ⟨fun hmonitor hlde hstate => hdue hmonitor hlde (quietReport_rests (.inl hstate)),
    fun x hmonitor hlde hstate hcurrent hlost =>
      hdue hmonitor hlde (quietReport_lost hstate hcurrent hlost),
    fun x hmonitor hlde hstate hcurrent hlost =>
      hdue hmonitor hlde (quietReport_starts hstate hcurrent hlost),
    fun h => timed_next hruns (quietEvent_none h), fun h => timed_next hruns (activeEvent_quiet h),
    fun h => timed_next hruns (activeEvent_active h)⟩

/-- Settles O36. -/
theorem lineTimerRows : Obligations.LineTimerRows := by
  unfold Obligations.LineTimerRows
  intro s hruns
  have hwindow {t : State} (hstate : s.le.state = .awaiting) (h : s.le.attempt.window ≠ none)
      (ht : expireWindow s = t) : exec .replyWindowExpiry s = .next t.settle :=
    timed_next hruns ((windowEvent_running s hstate h).trans (congrArg State.settle ht))
  refine ⟨fun x hcurrent => ⟨fun hstate h hpending => hwindow hstate h (expireWindow_pending hpending),
      fun hstate h hpending => hwindow hstate h (expireWindow_ends hpending hcurrent),
      fun hstate h => timed_next hruns ((gapEvent_running s hstate h).trans ?_)⟩,
    fun h => timed_next hruns (windowEvent_none h), fun h => timed_next hruns (gapEvent_none h)⟩
  exact congrArg State.settle (finishAttempt_current _ hcurrent)

/-- Settles O37, by the receiver and the engine's state. -/
theorem startReportRow : Obligations.StartReportRow := by
  unfold Obligations.StartReportRow
  refine ⟨fun s noise hruns => ⟨fun w hrx hstate => ?_, fun w hrx hstate => ?_,
    fun w hrx hstate => ?_, fun w hrx hstate => ?_,
    fun hrx => timed_next hruns (startEvent_none noise hrx)⟩,
    fun l => ⟨fun c n framing => pastLastStopBit_ends, pastLastStopBit_else⟩⟩
  · exact timed_next hruns ((startEvent_hunting noise hrx).trans (startReport_pending hstate))
  · exact timed_next hruns ((startEvent_hunting noise hrx).trans (startReport_receiving hstate))
  · exact timed_next hruns ((startEvent_hunting noise hrx).trans (startReport_stopped hstate))
  · exact timed_next hruns ((startEvent_hunting noise hrx).trans (startReport_foreign hstate))

end Sys2Proof.Proofs

/-! PROOF. The receiver's samples and its reports (R3 to R7, R13), and CHARACTER_REPORT (R5, R15, R27, R43 to
R45). -/

namespace Sys2Proof.Machine

/-! ## Deciding bits (R4, R5, R10) -/

theorem majority_three (a b c : Bool) : majority [a, b, c] = ((a && b) || (a && c) || (b && c)) := by
  cases a <;> cases b <;> cases c <;> rfl

theorem alike_three (a b c : Bool) : alike [a, b, c] = (decide (a = b) && decide (b = c)) := by
  cases a <;> cases b <;> cases c <;> rfl

theorem votesWith_seven {n : Nat} (level : Bool) (votes : List Bool) (h : n % 16 = 7) :
    votesWith n level votes = [level] := if_pos h

theorem votesWith_more {n : Nat} (level : Bool) (votes : List Bool) (h : n % 16 = 8 ∨ n % 16 = 9) :
    votesWith n level votes = votes ++ [level] := by
  rw [votesWith, if_neg (by omega), if_pos h]

theorem votesWith_outside {n : Nat} (level : Bool) (votes : List Bool)
    (h : n % 16 < 7 ∨ 9 < n % 16) : votesWith n level votes = votes := by
  rw [votesWith, if_neg (by omega), if_neg (by omega)]

section
variable {h : Shift} {n : Nat} (level : Bool)

theorem sample_undecided (hn : n % 16 ≠ 9) :
    h.sample n level = ({ h with votes := votesWith n level h.votes }, none) := if_neg hn

theorem sample_decides {a b : Bool} (hn : n % 16 = 9) (hvotes : h.votes = [a, b]) :
    h.sample n level =
      ({ votes := []
         bits := h.bits ++ [(a && b) || (a && level) || (b && level)]
         noise := h.noise || !(decide (a = b) && decide (b = level)) },
        some ((a && b) || (a && level) || (b && level))) := by
  have hthree : votesWith n level h.votes = [a, b, level] := by
    rw [votesWith_more level h.votes (.inr hn), hvotes]
    rfl
  rw [← majority_three, ← alike_three]
  simp only [Shift.sample, if_pos hn, hthree]
end

/-- The value of a list of bits, least significant first, has these bits. -/
theorem testBit_foldr (bits : List Bool) (k : Nat) :
    (bits.foldr (fun (b : Bool) n => b.toNat + 2 * n) 0).testBit k = bits.getD k false := by
  induction bits generalizing k with
  | nil => simp
  | cons b bits ih =>
    rw [List.foldr_cons]
    cases k with
    | zero => cases b <;> simp [Nat.testBit_zero]
    | succ k =>
      rw [Nat.testBit_succ, List.getD_cons_succ, ← ih]
      congr 1
      cases b
      · simp
      · simp only [Bool.toNat_true]
        omega

theorem byteOf_getLsbD (bits : List Bool) {k : Nat} (hk : k < 8) :
    (byteOf bits).getLsbD k = bits.getD k false := by
  rw [byteOf, BitVec.getLsbD_ofNat, testBit_foldr]
  simp [hk]

theorem byteOf_eight (b0 b1 b2 b3 b4 b5 b6 b7 : Bool) :
    [b0, b1, b2, b3, b4, b5, b6, b7] =
      (List.range 8).map fun k => (byteOf [b0, b1, b2, b3, b4, b5, b6, b7]).getLsbD k := by
  have hbits : (List.range 8).map (fun k => (byteOf [b0, b1, b2, b3, b4, b5, b6, b7]).getLsbD k) =
      (List.range 8).map fun k => [b0, b1, b2, b3, b4, b5, b6, b7].getD k false :=
    List.map_congr_left fun k hk => byteOf_getLsbD _ (List.mem_range.mp hk)
  rw [hbits]
  rfl

theorem edgeAt_eq (before level : Bool) :
    edgeAt before level = if before = true ∧ level = false then some (0, Shift.fresh) else none := by
  cases before <;> cases level <;> rfl

/-! ## The receiver at a sample -/

section
variable {s : State} (level : Bool)

/-- A sample leaves its level for the edge of R3. -/
def State.sampled (s : State) (level : Bool) : State := { s with li := { s.li with lastSample := level } }

theorem rxSample_hunting (h : s.li.rx = .hunting none) :
    rxSample level s =
      { s with
        li := { s.li with lastSample := level, rx := .hunting (edgeAt s.li.lastSample level) } } := by
  simp only [rxSample, h]

theorem rxSample_candidate {n : Nat} {h : Shift} (hrx : s.li.rx = .hunting (some (n, h))) :
    rxSample level s = candidateSample (n + 1) h s.li.lastSample level (s.sampled level) := by
  simp only [rxSample, hrx]
  rfl

theorem rxSample_assembling {n : Nat} {h : Shift} {foreign : Bool}
    (hrx : s.li.rx = .assembling n h foreign) :
    rxSample level s =
      assemblingSample (n + 1) h foreign s.li.lastSample level (s.sampled level) := by
  simp only [rxSample, hrx]
  rfl

theorem rxSample_breaking {n : Nat} {votes : List Bool} {armed : Bool}
    (hrx : s.li.rx = .heldLow n votes armed) (hbreaking : s.li.tx.breaking = true) :
    rxSample level s = s.sampled level := by
  simp only [rxSample, State.sampled, hrx, hbreaking, if_true]

theorem rxSample_heldLow {n : Nat} {votes : List Bool} {armed : Bool}
    (hrx : s.li.rx = .heldLow n votes armed) (hbreaking : s.li.tx.breaking = false) :
    rxSample level s = heldLowSample (n + 1) votes armed level (s.sampled level) := by
  simp only [rxSample, hrx, hbreaking, Bool.false_eq_true, if_false]
  rfl

theorem rxSample_echoing {h : Shift} (hrx : s.li.rx = .echoing h) :
    rxSample level s = s.sampled level := by
  simp only [rxSample, State.sampled, hrx]

variable {n : Nat} {h : Shift} {before : Bool}

theorem candidateSample_undecided (hg : (h.sample n level).2 = none) :
    candidateSample n h before level s =
      { s with li := { s.li with rx := .hunting (some (n, (h.sample n level).1)) } } := by
  unfold candidateSample
  generalize h.sample n level = g at hg ⊢
  obtain ⟨g, decided⟩ := g
  obtain rfl : decided = none := hg
  rfl

theorem candidateSample_false (hg : (h.sample n level).2 = some true) :
    candidateSample n h before level s =
      { s with li := { s.li with rx := .hunting (edgeAt before level) } } := by
  unfold candidateSample
  generalize h.sample n level = g at hg ⊢
  obtain ⟨g, decided⟩ := g
  obtain rfl : decided = some true := hg
  rfl

theorem candidateSample_confirmed (hg : (h.sample n level).2 = some false) :
    candidateSample n h before level s = startReport (h.sample n level).1 s := by
  unfold candidateSample
  generalize h.sample n level = g at hg ⊢
  obtain ⟨g, decided⟩ := g
  obtain rfl : decided = some false := hg
  rfl

variable {votes : List Bool} {armed : Bool}

theorem heldLowSample_undecided (hn : n % 16 ≠ 9) :
    heldLowSample n votes armed level s =
      { s with li := { s.li with rx := .heldLow n (votesWith n level votes) armed } } := if_neg hn

theorem heldLowSample_decides {a b : Bool} (hn : n % 16 = 9) (hvotes : votes = [a, b]) :
    heldLowSample n votes armed level s =
      if ((a && b) || (a && level) || (b && level)) = true then heldLowEnd s
      else if (armed && decide (n = 345)) = true then breakReport s
      else { s with li := { s.li with rx := .heldLow n [] armed } } := by
  have hthree : votesWith n level votes = [a, b, level] := by
    rw [votesWith_more level votes (.inr hn), hvotes]
    rfl
  rw [← majority_three]
  simp only [heldLowSample, if_pos hn, hthree]

end

theorem Tx.breaking_iff (tx : Tx) :
    tx.breaking = true ↔ (∃ n, tx = .breakLow n) ∨ ∃ n, tx = .breakHigh n := by
  cases tx <;> simp [Tx.breaking]

/-! ## The character report -/

section
variable {s : State} {c : LineChar} {edge : Option (Nat × Shift)}

/-- The receiver after a character report. -/
def State.heard (s : State) (c : LineChar) (edge : Option (Nat × Shift)) : State :=
  { s with
    li := { s.li with
      oldRate := none
      rx :=
        if c.framing then .heldLow 169 [] (decide (c.data = 0) && !c.mark) else .hunting edge } }

theorem characterReport_eq (s : State) (c : LineChar) (foreign : Bool) (edge : Option (Nat × Shift)) :
    characterReport c foreign edge s =
      (if foreign then s.heard c edge else charTaken c (s.heard c edge)).settle := by
  have hrx : c.nextRx edge =
      if c.framing then .heldLow 169 [] (decide (c.data = 0) && !c.mark) else .hunting edge := by
    obtain ⟨data, mark, noise, framing⟩ := c
    cases framing <;> simp [LineChar.nextRx, LineChar.breakCandidate]
  unfold characterReport
  rw [hrx]
  rfl

theorem charTaken_begins (hstate : s.le.state = .awaiting) (hmark : c.mark = true) :
    charTaken c s = s.beginReceiving c := by
  simp [charTaken, hstate, hmark]

theorem charTaken_stray (hstate : s.le.state = .awaiting) (hmark : c.mark = false) :
    charTaken c s = strayChar s := by
  simp [charTaken, hstate, hmark]

theorem strayChar_waits (hout : s.le.attempt.windowOut = false) :
    strayChar s =
      { s with le := { s.le with attempt := { s.le.attempt with stray := true, pending := false } } } :=
  if_neg (by simp [hout])

theorem strayChar_expires {x : Transaction} (hcurrent : s.le.current = some x)
    (hout : s.le.attempt.windowOut = true) :
    strayChar s =
      attemptEnds x (.corrupt .stray)
        { s with
          le := { s.le with attempt := { s.le.attempt with stray := true, pending := false } } } :=
  (if_pos hout).trans (expireWindow_ends (s := { s with
    le := { s.le with attempt := { s.le.attempt with stray := true, pending := false } } }) rfl hcurrent)

theorem charTaken_truncated {x : Transaction} (hcurrent : s.le.current = some x)
    (hstate : s.le.state = .receiving) (hmark : c.mark = true) :
    charTaken c s =
      attemptEnds x (.corrupt .truncated)
        { s with eu := { s.eu with latches := s.eu.latches ||| 0x040#12 } } := by
  have htaken : charTaken c s = finishAttempt (.corrupt .truncated) (s.raise .lineContention) := by
    simp [charTaken, hstate, hmark]
  exact htaken.trans (finishAttempt_current _ hcurrent)

theorem charTaken_continues {x : Transaction} (hcurrent : s.le.current = some x)
    (hstate : s.le.state = .receiving) (hmark : c.mark = false) :
    charTaken c s = s.takeReplyChar x c := by
  simp [charTaken, hstate, hmark, hcurrent]

theorem charTaken_sending (hstate : s.le.state = .sending) :
    charTaken c s = { s with le := { s.le with attempt := { s.le.attempt with pending := false } } } := by
  simp [charTaken, hstate]

theorem charTaken_none (hsending : s.le.state ≠ .sending) (hawaiting : s.le.state ≠ .awaiting)
    (hreceiving : s.le.state ≠ .receiving) : charTaken c s = s := by
  cases h : s.le.state <;> simp_all [charTaken]

theorem characterEvent_assembling {n : Nat} {h : Shift} {foreign : Bool}
    (hrx : s.li.rx = .assembling n h foreign) :
    characterEvent c s =
      characterReport { c with noise := c.noise || h.noise } foreign none
        { s with li := { s.li with lastSample := !c.framing } } := by
  simp only [characterEvent, hrx]

theorem characterEvent_none (h : ∀ n h foreign, s.li.rx ≠ .assembling n h foreign) :
    characterEvent c s = s := by
  cases hrx : s.li.rx with
  | assembling n g foreign => exact absurd hrx (h n g foreign)
  | hunting _ | heldLow _ _ _ | echoing _ => simp only [characterEvent, hrx]

theorem breakEvent_armed {n : Nat} {votes : List Bool} (hrx : s.li.rx = .heldLow n votes true) :
    breakEvent s = breakReport { s with li := { s.li with lastSample := false } } := by
  simp only [breakEvent, hrx]

theorem breakEvent_none (h : ∀ n votes, s.li.rx ≠ .heldLow n votes true) : breakEvent s = s := by
  cases hrx : s.li.rx with
  | heldLow n votes armed =>
    cases armed with
    | true => exact absurd hrx (h n votes)
    | false => simp only [breakEvent, hrx]
  | hunting _ | assembling _ _ _ | echoing _ => simp only [breakEvent, hrx]

end
end Sys2Proof.Machine

namespace Sys2Proof.Proofs
open Sys2Proof.Machine

/-- Settles O38: the row, the engine by its state, the decision of bits, the samples by the receiver's
state. -/
theorem characterReportRow : Obligations.CharacterReportRow := by
  unfold Obligations.CharacterReportRow
  refine ⟨fun s data mark noise framing hruns =>
      ⟨fun n h foreign hrx => timed_next hruns (characterEvent_assembling hrx),
        fun hrx => timed_next hruns (characterEvent_none hrx)⟩,
    fun s c edge => ?engine, fun h n level a b => ?bits, fun s level => ?samples, rfl,
    fun s hruns => ⟨fun w noise hrx => timed_next hruns (startEvent_hunting noise hrx),
      fun n v hrx => timed_next hruns (breakEvent_armed hrx), Tx.breaking_iff⟩⟩
  case engine =>
    have hreport {u : State} (h : charTaken c (s.heard c edge) = u) :
        characterReport c false edge s = u.settle := by
      rw [characterReport_eq, ← h]
      rfl
    have hstray (hstate : s.le.state = .awaiting) (hmark : c.mark = false) :
        charTaken c (s.heard c edge) = strayChar (s.heard c edge) := charTaken_stray hstate hmark
    exact ⟨characterReport_eq s c true edge, fun x hcurrent =>
      ⟨fun hstate hmark => hreport (charTaken_begins hstate hmark),
        fun hstate hmark hout => hreport ((hstray hstate hmark).trans (strayChar_waits hout)),
        fun hstate hmark hout => hreport ((hstray hstate hmark).trans (strayChar_expires hcurrent hout)),
        fun hstate hmark => hreport (charTaken_truncated hcurrent hstate hmark),
        fun hstate hmark => hreport (charTaken_continues hcurrent hstate hmark),
        fun hstate => hreport (charTaken_sending hstate)⟩,
      fun hsending hawaiting hreceiving => hreport (charTaken_none hsending hawaiting hreceiving)⟩
  case bits =>
    refine ⟨fun hn => ?_, fun hn => ?_, fun hn hvotes => sample_decides level hn hvotes,
      fun hn => ?_, fun start mark stop b0 b1 b2 b3 b4 b5 b6 b7 hbits => ?_⟩
    · rw [sample_undecided level (by omega), votesWith_seven level _ hn]
    · rw [sample_undecided level (by omega), votesWith_more level _ (.inl hn)]
    · rw [sample_undecided level (by omega), votesWith_outside level _ hn]
    · have hreport : h.report =
          { data := byteOf [b0, b1, b2, b3, b4, b5, b6, b7], mark := mark, noise := h.noise,
            framing := !stop } := by
        simp only [Shift.report, hbits]
        rfl
      have hecho : h.echo = { h.report with framing := start || !stop } := by
        simp only [Shift.echo, hbits]
        rfl
      rw [hecho, hreport]
      exact ⟨rfl, rfl, rfl, rfl, byteOf_eight b0 b1 b2 b3 b4 b5 b6 b7⟩
  case samples =>
    simp only [← edgeAt_eq]
    refine ⟨rxSample_hunting level, fun n h hrx => ⟨fun hg => ?_, fun hg => ?_, fun hg => ?_⟩,
      fun n h foreign hrx => ⟨fun hn => ?_, fun hn => ?_⟩,
      fun n votes armed hrx => ⟨rxSample_breaking level hrx, fun hb hn => ?_, fun hb hn => ?_,
        fun hb hn => ?_, fun a b hb hn hvotes => ⟨fun hhigh => ?_, fun hlow harmed h345 => ?_,
          fun hlow hnot => ?_⟩⟩, fun h hrx => rxSample_echoing level hrx⟩
    · rw [rxSample_candidate level hrx, candidateSample_undecided level hg]
      rfl
    · rw [rxSample_candidate level hrx, candidateSample_false level hg]
      rfl
    · rw [rxSample_candidate level hrx, candidateSample_confirmed level hg]
      rfl
    · rw [rxSample_assembling level hrx]
      exact if_neg (by omega)
    · rw [rxSample_assembling level hrx]
      exact if_pos (by omega)
    · rw [rxSample_heldLow level hrx hb, heldLowSample_undecided level (by omega),
        votesWith_seven level votes hn]
      rfl
    · rw [rxSample_heldLow level hrx hb, heldLowSample_undecided level (by omega),
        votesWith_more level votes (.inl hn)]
      rfl
    · rw [rxSample_heldLow level hrx hb, heldLowSample_undecided level (by omega),
        votesWith_outside level votes hn]
      rfl
    · rw [rxSample_heldLow level hrx hb, heldLowSample_decides level hn hvotes, if_pos hhigh]
      rfl
    · rw [rxSample_heldLow level hrx hb, heldLowSample_decides level hn hvotes,
        if_neg (by simp [hlow]), if_pos (by simp [harmed, h345])]
      rfl
    · rw [rxSample_heldLow level hrx hb, heldLowSample_decides level hn hvotes,
        if_neg (by simp [hlow]), if_neg (by rcases hnot with h | h <;> simp [h])]
      rfl

end Sys2Proof.Proofs

/-! PROOF. The characters of a reply, each in its place (R27 to R29, R44). -/

namespace Sys2Proof.Machine

theorem storeAt_beyond {m : Memory} {chain : Chain} {k : Nat} (v : Byte) (h : chain[k / 32]? = none) :
    m.storeAt chain k v = m := by
  have haddress : chainAddress chain k = none := by simp [chainAddress, Config.blockBytes, h]
  simp only [Memory.storeAt, haddress]

theorem orElse_eq_or {α : Type} (a b : Option α) : (a.orElse fun _ => b) = a.or b := by
  cases a <;> rfl

/-- What every character of a reply frame leaves of the attempt: the timers, the count, the first mark. -/
def State.charCounted (s : State) (c : LineChar) : Attempt :=
  { s.le.attempt with
    pending := false
    gap := some (s.le.params.gap.toNat * 176)
    taken := s.le.attempt.taken + 1
    markCause := s.le.attempt.markCause.or c.markCause }

section
variable {s : State} {x : Transaction} {c : LineChar}

theorem takeReplyChar_control (h : s.le.attempt.taken = 1) :
    s.takeReplyChar x c =
      { s with le := { s.le with
        attempt := { s.charCounted c with
          replyControl := c.data, replyCheck := checkFeed s.le.attempt.replyCheck c.data } } } := by
  simp only [State.takeReplyChar, if_pos h, orElse_eq_or]
  rfl

theorem takeReplyChar_length (h : s.le.attempt.taken = 2) (hlen : c.data.toNat ≤ 96) :
    s.takeReplyChar x c =
      { s with le := { s.le with
        attempt := { s.charCounted c with
          replyLength := c.data, replyCheck := checkFeed s.le.attempt.replyCheck c.data } } } := by
  have h1 : ¬s.le.attempt.taken = 1 := by omega
  have hlen' : ¬96 < c.data.toNat := by omega
  simp only [State.takeReplyChar, if_neg h1, if_pos h, if_neg hlen', orElse_eq_or]
  rfl

theorem takeReplyChar_tooLong (hcurrent : s.le.current = some x) (h : s.le.attempt.taken = 2)
    (hlen : 96 < c.data.toNat) :
    s.takeReplyChar x c =
      attemptEnds x (.corrupt ((s.charCounted c).markCause.getD .length))
        { s with le := { s.le with attempt := { s.charCounted c with gap := none } } } := by
  have h1 : ¬s.le.attempt.taken = 1 := by omega
  simp only [State.takeReplyChar, if_neg h1, if_pos h, if_pos hlen, orElse_eq_or]
  exact finishAttempt_current _ hcurrent

theorem takeReplyChar_payload (h3 : 3 ≤ s.le.attempt.taken)
    (h : s.le.attempt.taken < 3 + s.le.attempt.replyLength.toNat) :
    s.takeReplyChar x c =
      { s with
        le := { s.le with
          attempt := { s.charCounted c with
            replyCheck := checkFeed s.le.attempt.replyCheck c.data } }
        fs := { s.fs with
          mem := s.fs.mem.storeAt x.reservation (s.le.attempt.taken - 3) c.data } } := by
  have h1 : ¬s.le.attempt.taken = 1 := by omega
  have h2 : ¬s.le.attempt.taken = 2 := by omega
  simp only [State.takeReplyChar, if_neg h1, if_neg h2, if_pos h, orElse_eq_or]
  rfl

theorem takeReplyChar_checkLow (h3 : 3 ≤ s.le.attempt.taken)
    (h : s.le.attempt.taken = 3 + s.le.attempt.replyLength.toNat) :
    s.takeReplyChar x c =
      { s with le := { s.le with attempt := { s.charCounted c with checkLow := c.data } } } := by
  have h1 : ¬s.le.attempt.taken = 1 := by omega
  have h2 : ¬s.le.attempt.taken = 2 := by omega
  have hlt : ¬s.le.attempt.taken < 3 + s.le.attempt.replyLength.toNat := by omega
  simp only [State.takeReplyChar, if_neg h1, if_neg h2, if_neg hlt, if_pos h, orElse_eq_or]
  rfl

theorem takeReplyChar_last (hcurrent : s.le.current = some x) (h3 : 3 ≤ s.le.attempt.taken)
    (h : 3 + s.le.attempt.replyLength.toNat < s.le.attempt.taken) :
    let w : State := { s with le := { s.le with attempt := { s.charCounted c with gap := none } } }
    s.takeReplyChar x c = attemptEnds x (w.judge x c.data) w := by
  have h1 : ¬s.le.attempt.taken = 1 := by omega
  have h2 : ¬s.le.attempt.taken = 2 := by omega
  have hlt : ¬s.le.attempt.taken < 3 + s.le.attempt.replyLength.toNat := by omega
  have hne : ¬s.le.attempt.taken = 3 + s.le.attempt.replyLength.toNat := by omega
  simp only [State.takeReplyChar, if_neg h1, if_neg h2, if_neg hlt, if_neg hne, orElse_eq_or]
  exact finishAttempt_current _ hcurrent

end
end Sys2Proof.Machine

namespace Sys2Proof.Proofs
open Sys2Proof.Machine

/-- Settles O39, place by place. -/
theorem replyCharacters : Obligations.ReplyCharacters := by
  unfold Obligations.ReplyCharacters
  refine ⟨fun m chain k v hm => ⟨storeAt_beyond v, fun b hb => ?_⟩, fun s x c hcurrent =>
    ⟨rfl, takeReplyChar_control, takeReplyChar_length, takeReplyChar_tooLong hcurrent,
      takeReplyChar_payload, takeReplyChar_checkLow, takeReplyChar_last hcurrent⟩⟩
  have haddress : chainAddress chain k = some (b.val * 32 + k % 32) :=
    chainAddress_eq_some.mpr ⟨b, hb, rfl⟩
  refine ⟨?_, fun a hne => ?_⟩
  · rw [Memory.read_storeAt m chain k _ v hm, if_pos haddress]
  · rw [Memory.read_storeAt m chain k _ v hm, if_neg]
    intro h
    exact hne (Option.some.inj (h.symm.trans haddress))

end Sys2Proof.Proofs

/-! PROOF. The transmitter: the start of a frame (R8, R10, R24), the end of the release bit and of a break's
low period (R11, R13, R34, R36, R42), its samples and its levels (R1, R8 to R13). -/

namespace Sys2Proof.Machine

section
variable {s : State}

theorem clock_of_timeRuns (h : s.timeRuns = true) : s.pins.clock = true := by
  simp only [State.timeRuns, Bool.and_eq_true] at h
  exact h.1

/-! ## FIRST_START_REPORT -/

theorem firstStart_sends {c : TxChar} {x : Transaction} (hstate : s.le.state = .turnaround)
    (hcurrent : s.le.current = some x) :
    firstStart c s =
      { s with
        li := s.li.beginChar c
        le := { s.le with
          state := .sending
          attempt :=
            if x.kind = .timesync then { s.le.attempt with latched := s.tb.counter }
            else s.le.attempt } } := by
  simp only [firstStart, hstate, if_true, State.latchTick, hcurrent]
  split_ifs <;> rfl

theorem firstStart_else {c : TxChar} (hstate : s.le.state ≠ .turnaround) :
    firstStart c s = { s with li := s.li.beginChar c } := if_neg hstate

theorem firstStartEvent_none (h : (∀ n, s.li.tx ≠ .turnaround n) ∨ s.li.supplied = none) :
    firstStartEvent s = s := by
  unfold firstStartEvent
  split
  · rename_i htx hsupplied
    rcases h with hne | hnone
    · exact absurd htx (hne _)
    · exact nomatch hnone.symm.trans hsupplied
  · rfl

/-! ## RELEASED_REPORT -/

/-- The Line Interface at the end of the release bit: released, or at the start of a break that waited. -/
def LineInterface.released (l : LineInterface) : LineInterface :=
  if l.breakWaiting then
    { l with
      tx := .breakLow 0, breakWaiting := false, rx := .heldLow 0 [] false, oldRate := none,
      monitor := .active, quietTimer := 0 }
  else { l with tx := .released }

theorem releasedReport_eq (hclock : s.pins.clock = true) :
    releasedReport s = ({ s with li := s.li.released } : State).openWindow := by
  unfold releasedReport
  rw [hclock]
  rfl

theorem openWindow_sending (h : s.le.state = .sending) :
    s.openWindow =
      { s with le := { s.le with
        state := .awaiting
        attempt := { s.le.attempt with
          window := some (s.le.params.window.toNat * 176) } } } := if_pos h

theorem openWindow_else (h : s.le.state ≠ .sending) : s.openWindow = s := if_neg h

theorem releasedEvent_due {n : Nat} (h : s.li.pastLastStopBit.tx = .releaseBit n) :
    releasedEvent s = releasedReport { s with li := s.li.pastLastStopBit } := by
  simp only [releasedEvent, h]

theorem releasedEvent_none (h : ∀ n, s.li.pastLastStopBit.tx ≠ .releaseBit n) :
    releasedEvent s = s := by
  cases htx : s.li.pastLastStopBit.tx with
  | releaseBit n => exact absurd htx (h n)
  | released | turnaround _ | sending _ _ _ | breakLow _ | breakHigh _ =>
    simp only [releasedEvent, htx]

/-! ## BREAK_LOW_END -/

theorem breakLowEvent_due {n : Nat} (h : s.li.tx = .breakLow n) : breakLowEvent s = breakLowEnd s := by
  simp only [breakLowEvent, h]

theorem breakLowEvent_none (h : ∀ n, s.li.tx ≠ .breakLow n) : breakLowEvent s = s := by
  cases htx : s.li.tx with
  | breakLow n => exact absurd htx (h n)
  | released | turnaround _ | sending _ _ _ | releaseBit _ | breakHigh _ =>
    simp only [breakLowEvent, htx]

/-! ## The levels (R1, R8, R11, R13) -/

variable {l : LineInterface}

theorem lde_iff : l.lde = false ↔ l.tx = .released := by
  cases h : l.tx <;> simp [LineInterface.lde, h]

theorem ltx_of_sending {c : TxChar} {n : Nat} {e : Option Bool} (h : l.tx = .sending c n e) :
    l.ltx = c.level (n / 16) := by
  simp only [LineInterface.ltx, h]
  rfl

theorem ltx_of_breakLow {n : Nat} (h : l.tx = .breakLow n) : l.ltx = false := by
  simp only [LineInterface.ltx, h]

theorem ltx_of_rest (hsending : ∀ c n e, l.tx ≠ .sending c n e) (hbreak : ∀ n, l.tx ≠ .breakLow n) :
    l.ltx = true := by
  cases h : l.tx with
  | sending c n e => exact absurd h (hsending c n e)
  | breakLow n => exact absurd h (hbreak n)
  | released | turnaround _ | releaseBit _ | breakHigh _ => simp only [LineInterface.ltx, h]

theorem TxChar.level_data (c : TxChar) (k : Fin 8) : c.level (k.val + 1) = c.data.getLsbD k.val :=
  if_pos (show k.val + 1 ≤ 8 by omega)

/-! ## The transmitter at a sample -/

variable (level : Bool)

theorem txSample_released (h : s.li.tx = .released) : txSample level s = s := by
  simp only [txSample, h]

theorem txSample_turnaround {n : Nat} (h : s.li.tx = .turnaround n) :
    txSample level s =
      ({ s with li := { s.li with tx := .turnaround (n - 1) } } : State).startIfElapsed := by
  simp only [txSample, h]

theorem txSample_starts {n : Nat} {c : TxChar} (h : s.li.tx = .turnaround n) (hn : n ≤ 1)
    (hsupplied : s.li.supplied = some c) (hclock : s.pins.clock = true) :
    txSample level s = firstStart c s := by
  rw [txSample_turnaround level h, Nat.sub_eq_zero_of_le hn]
  exact startIfElapsed_begins rfl hsupplied hclock

theorem txSample_sending {c : TxChar} {n : Nat} {e : Option Bool} (h : s.li.tx = .sending c n e) :
    txSample level s = sendingSample c (n + 1) e level s := by
  simp only [txSample, h]

theorem sendingSample_ends {c : TxChar} {n : Nat} {e : Option Bool} (hn : 176 ≤ n) :
    sendingSample c n e level s = { s with li := s.li.endStopBit (e.getD false) } := if_pos hn

theorem sendingSample_continues {c : TxChar} {n : Nat} {e : Option Bool} {h : Shift} (hn : n < 176)
    (hrx : s.li.rx = .echoing h) :
    sendingSample c n e level s =
      if n = 169 then
        echoReport c (h.sample n level).1.echo
          { s with li := { s.li with tx := .sending c n e, rx := .echoing (h.sample n level).1 } }
      else { s with li := { s.li with tx := .sending c n e, rx := .echoing (h.sample n level).1 } } := by
  have hshift : s.li.rx.echoShift = h := by rw [hrx]; rfl
  have hnot : ¬Config.samplesPerChar ≤ n := by
    show ¬176 ≤ n
    omega
  unfold sendingSample
  simp only [if_neg hnot, hshift]

/-- The stop bit of an echoed character with nothing supplied after it. -/
theorem endStopBit_releases {e : Option Bool} (h : l.supplied = none) :
    l.endStopBit (e.getD false) =
      { l with
        tx := .releaseBit 0
        rx := if e = some true then .heldLow 0 [] false else .hunting none } := by
  simp only [LineInterface.endStopBit, h]
  rcases e with - | (- | -) <;> rfl

theorem endStopBit_begins {c : TxChar} (framing : Bool) (h : l.supplied = some c) :
    l.endStopBit framing = l.beginChar c := by
  simp only [LineInterface.endStopBit, h]

theorem txSample_releaseBit {n : Nat} (h : s.li.tx = .releaseBit n) :
    txSample level s =
      if 16 ≤ n + 1 then releasedReport s
      else { s with li := { s.li with tx := .releaseBit (n + 1) } } := by
  simp only [txSample, h]
  rfl

theorem txSample_breakLow {n : Nat} (h : s.li.tx = .breakLow n) :
    txSample level s =
      if s.le.params.breakLength.toNat * 176 ≤ n + 1 then breakLowEnd s
      else { s with li := { s.li with tx := .breakLow (n + 1) } } := by
  simp only [txSample, h]
  rfl

theorem txSample_breakHigh {n : Nat} (h : s.li.tx = .breakHigh n) :
    txSample level s =
      if 16 ≤ n + 1 then breakDoneReport s
      else { s with li := { s.li with tx := .breakHigh (n + 1) } } := by
  simp only [txSample, h]
  rfl

theorem pastLastStopBit_of_releaseBit {n : Nat} (h : l.tx = .releaseBit n) : l.pastLastStopBit = l :=
  pastLastStopBit_else (.inl (by simp [h]))

/-! ## ECHO_REPORT and BREAK_DONE_REPORT, where they are due -/

theorem echoEvent_first {c : TxChar} {n : Nat} (e : LineChar) (h : s.li.tx = .sending c n none) :
    echoEvent e s = echoReport c e s := by
  simp only [echoEvent, h]

theorem breakDoneEvent_due {n : Nat} (h : s.li.tx = .breakHigh n) :
    breakDoneEvent s = breakDoneReport s := by
  simp only [breakDoneEvent, h]

end
end Sys2Proof.Machine

namespace Sys2Proof.Proofs
open Sys2Proof.Machine

/-- Settles O42: the rows, the levels, and the samples by what the transmitter is doing. -/
theorem transmitRows : Obligations.TransmitRows := by
  unfold Obligations.TransmitRows
  refine ⟨⟨fun s hruns => ⟨fun n c x htx hsupplied hstate hcurrent => ?_,
      fun n c htx hsupplied hstate => ?_, fun h => timed_next hruns (firstStartEvent_none h)⟩,
      fun s hruns => ?rows⟩,
    fun l => ⟨lde_iff, fun c n e => ltx_of_sending, fun n => ltx_of_breakLow, ltx_of_rest⟩,
    fun c => ⟨rfl, c.level_data, rfl, rfl⟩, fun s level hruns => ?samples⟩
  · exact timed_next hruns
      ((firstStartEvent_due htx hsupplied).trans (firstStart_sends hstate hcurrent))
  · exact timed_next hruns ((firstStartEvent_due htx hsupplied).trans (firstStart_else hstate))
  case rows =>
    have hreleased {n : Nat} {t : State} (h : s.li.pastLastStopBit.tx = .releaseBit n)
        (ht : ({ s with li := s.li.pastLastStopBit.released } : State).openWindow = t) :
        exec .releasedReport s = .next t :=
      timed_next hruns ((releasedEvent_due h).trans
        ((releasedReport_eq (s := { s with li := s.li.pastLastStopBit })
          (clock_of_timeRuns hruns)).trans ht))
    refine ⟨fun n h hstate => hreleased h (openWindow_sending hstate),
      fun n h hstate => hreleased h (openWindow_else hstate),
      fun h => timed_next hruns (releasedEvent_none h), fun n h => ?_,
      fun h => timed_next hruns (breakLowEvent_none h)⟩
    obtain ⟨v, hclear, hentries⟩ := clearToggles_eq { s with li := { s.li with tx := .breakHigh 0 } }
    exact ⟨{ s.st with entries := v }, timed_next hruns ((breakLowEvent_due h).trans hclear), rfl,
      hentries⟩
  case samples =>
    have hclock := clock_of_timeRuns hruns
    refine ⟨txSample_released level, fun n htx hn => ?_, fun n c htx hn hsupplied => ?_,
      fun c n e h htx hrx => ⟨fun hne hlt => ?_, fun hn he => ?_⟩,
      fun c n e htx hn => ⟨fun c' hsupplied => ?_, fun hsupplied => ?_⟩,
      fun n htx => ⟨fun hn => ?_, fun hn => ?_⟩, fun n htx => ⟨fun hn => ?_, fun hn => ?_⟩,
      fun n htx => ⟨fun hn => ?_, fun hn => ?_⟩⟩
    · rw [txSample_turnaround level htx]
      exact startIfElapsed_waits (.inl fun h => by injection h; omega)
    · exact timed_next hruns
        ((firstStartEvent_due htx hsupplied).trans (txSample_starts level htx hn hsupplied hclock).symm)
    · rw [txSample_sending level htx, sendingSample_continues level (by omega) hrx]
      exact if_neg (by omega)
    · subst hn he
      rw [txSample_sending level htx, sendingSample_continues level (by omega) hrx]
      exact timed_next hruns (echoEvent_first _ htx)
    · rw [txSample_sending level htx, sendingSample_ends level (by omega),
        endStopBit_begins _ hsupplied]
      rfl
    · rw [txSample_sending level htx, sendingSample_ends level (by omega),
        endStopBit_releases hsupplied]
    · rw [txSample_releaseBit level htx]
      exact if_neg (by omega)
    · rw [txSample_releaseBit level htx, if_pos (by omega)]
      have hpast := pastLastStopBit_of_releaseBit htx
      refine timed_next hruns ((releasedEvent_due (n := n) (by rw [hpast, htx])).trans ?_)
      rw [hpast]
    · rw [txSample_breakLow level htx]
      exact if_neg (by omega)
    · rw [txSample_breakLow level htx, if_pos hn]
      exact timed_next hruns (breakLowEvent_due htx)
    · rw [txSample_breakHigh level htx]
      exact if_neg (by omega)
    · rw [txSample_breakHigh level htx, if_pos (by omega)]
      exact timed_next hruns (breakDoneEvent_due htx)

end Sys2Proof.Proofs

/-! PROOF. ECHO_REPORT (R9, R10, R40 to R42), the characters of a command frame (R18 to R24), the end of a break
and BREAK_REPORT (R6, R7, R13, R36, R46, R60, R62). -/

namespace Sys2Proof.Machine

section
variable {s : State} {x : Transaction} {c : TxChar} {e : LineChar}

/-! ## The echo -/

theorem agrees_iff :
    e.agrees c = true ↔ e.data = c.data ∧ e.mark = c.mark ∧ e.noise = false ∧ e.framing = false := by
  simp only [LineChar.agrees, Bool.and_eq_true, decide_eq_true_eq, Bool.not_eq_true']
  tauto

theorem broadcast_iff (k : CommandKind) : k.broadcast = true ↔ k = .bcast ∨ k = .timesync := by
  cases k <;> simp [CommandKind.broadcast]

/-- The state as an echo report finds it: the echo of the character in progress is handed over. -/
def State.echoing (s : State) (c : TxChar) (framing : Bool) : State :=
  { s with li := { s.li with tx := .sending c 169 (some framing) } }

theorem echoTaken_else (hstate : s.le.state ≠ .sending) : echoTaken c e s = s := by
  cases h : s.le.state <;> simp_all [echoTaken]

theorem echoTaken_collides (hstate : s.le.state = .sending) (hcurrent : s.le.current = some x)
    (h : e.agrees c = false) :
    echoTaken c e s =
      attemptEnds x .collision
        { s with eu := { s.eu with latches := s.eu.latches ||| 0x040#12 } } := by
  have htaken : echoTaken c e s = finishAttempt .collision (s.raise .lineContention) := by
    simp [echoTaken, hstate, hcurrent, h]
  exact htaken.trans (finishAttempt_current _ hcurrent)

theorem echoTaken_agrees (hstate : s.le.state = .sending) (hcurrent : s.le.current = some x)
    (h : e.agrees c = true) : echoTaken c e s = echoAgreed x s := by
  simp [echoTaken, hstate, hcurrent, h]

theorem echoAgreed_continues (h : s.frameByte x s.le.attempt.sent ≠ none) :
    echoAgreed x s = s.supplyNext x := by
  unfold echoAgreed
  cases hbyte : s.frameByte x s.le.attempt.sent with
  | none => exact absurd hbyte h
  | some v => rfl

theorem echoAgreed_last (h : s.frameByte x s.le.attempt.sent = none) :
    echoAgreed x s = if x.kind.broadcast then finishAttempt .sent s else s := by
  simp only [echoAgreed, h]

theorem echoEvent_next {c0 : TxChar} {n : Nat} {f : Bool} (h : s.li.tx = .sending c0 n (some f))
    (hsupplied : s.li.supplied = some c) :
    echoEvent e s = echoReport c e { s with li := s.li.beginChar c } := by
  simp only [echoEvent, h, hsupplied]

theorem echoEvent_none
    (h : (∀ c n f, s.li.tx ≠ .sending c n f) ∨
      ∃ c n f, s.li.tx = .sending c n (some f) ∧ s.li.supplied = none) : echoEvent e s = s := by
  rcases h with hne | ⟨c, n, f, htx, hsupplied⟩
  · cases htx : s.li.tx with
    | sending c n f => exact absurd htx (hne c n f)
    | released | turnaround _ | releaseBit _ | breakLow _ | breakHigh _ =>
      simp only [echoEvent, htx]
  · simp only [echoEvent, htx, hsupplied]

/-! ## Command frames -/

theorem controlByte_eq (k : CommandKind) (toggle : Bool) :
    controlByte k toggle = 0#3 ++ BitVec.ofBool toggle ++ k.code := by
  cases k <;> cases toggle <;> rfl

theorem frameByte_payload {k : Nat} (h : k < x.sendLength) :
    s.frameByte x (3 + k) = some (s.sendByte x k) := by
  simp only [State.frameByte, if_neg (show ¬3 + k = 0 by omega), if_neg (show ¬3 + k = 1 by omega),
    if_neg (show ¬3 + k = 2 by omega), if_pos (show 3 + k < 3 + x.sendLength by omega),
    Nat.add_sub_cancel_left]

theorem frameByte_checkLow :
    s.frameByte x (3 + x.sendLength) = some (s.le.attempt.sendCheck.extractLsb' 0 8) := by
  simp only [State.frameByte, if_neg (show ¬3 + x.sendLength = 0 by omega),
    if_neg (show ¬3 + x.sendLength = 1 by omega), if_neg (show ¬3 + x.sendLength = 2 by omega),
    lt_irrefl, if_false, if_true]

theorem frameByte_checkHigh :
    s.frameByte x (4 + x.sendLength) = some (s.le.attempt.sendCheck.extractLsb' 8 8) := by
  simp only [State.frameByte, if_neg (show ¬4 + x.sendLength = 0 by omega),
    if_neg (show ¬4 + x.sendLength = 1 by omega), if_neg (show ¬4 + x.sendLength = 2 by omega),
    if_neg (show ¬4 + x.sendLength < 3 + x.sendLength by omega),
    if_neg (show ¬4 + x.sendLength = 3 + x.sendLength by omega), if_true]

theorem frameByte_after : s.frameByte x (5 + x.sendLength) = none := by
  simp only [State.frameByte, if_neg (show ¬5 + x.sendLength = 0 by omega),
    if_neg (show ¬5 + x.sendLength = 1 by omega), if_neg (show ¬5 + x.sendLength = 2 by omega),
    if_neg (show ¬5 + x.sendLength < 3 + x.sendLength by omega),
    if_neg (show ¬5 + x.sendLength = 3 + x.sendLength by omega),
    if_neg (show ¬5 + x.sendLength = 4 + x.sendLength by omega)]

theorem sendLength_timesync {tag : Word} (h : x.origin = .request tag) (hkind : x.kind = .timesync) :
    x.sendLength = 4 := by
  simp [Transaction.sendLength, h, hkind]

theorem sendLength_request {tag : Word} (h : x.origin = .request tag) (hkind : x.kind ≠ .timesync) :
    x.sendLength = x.length.toNat := by
  simp [Transaction.sendLength, h, hkind]

theorem sendByte_timesync {tag : Word} (h : x.origin = .request tag) (hkind : x.kind = .timesync)
    (k : Nat) : s.sendByte x k = s.le.attempt.latched.extractLsb' (8 * k) 8 := by
  simp [State.sendByte, h, hkind]

theorem sendByte_request {tag : Word} {k : Nat} {b : Block} (h : x.origin = .request tag)
    (hkind : x.kind ≠ .timesync) (hb : x.payload[k / 32]? = some b) :
    s.sendByte x k = s.fs.mem.read (b.val * 32 + k % 32) := by
  have haddress : chainAddress x.payload k = some (b.val * 32 + k % 32) :=
    chainAddress_eq_some.mpr ⟨b, hb, rfl⟩
  simp [State.sendByte, h, hkind, Memory.chainByte, haddress]

theorem sendLength_empty (h : x.origin = .pollSlot ∨ x.origin = .probe) : x.sendLength = 0 := by
  rcases h with h | h <;> simp [Transaction.sendLength, h]

theorem readSlot_frame (h : x.origin = .readSlot) :
    x.sendLength = 1 ∧ s.sendByte x 0 = x.selector := by
  simp [Transaction.sendLength, State.sendByte, h]

theorem supplyNext_eq {v : Byte} (h : s.frameByte x s.le.attempt.sent = some v) :
    s.supplyNext x =
      { s with
        li := { s.li with supplied := some { data := v, mark := false } }
        le := { s.le with
          attempt := { s.le.attempt with
            sent := s.le.attempt.sent + 1
            sendCheck :=
              if s.le.attempt.sent < 3 + x.sendLength then checkFeed s.le.attempt.sendCheck v
              else s.le.attempt.sendCheck } } } := by
  simp only [State.supplyNext, h]

/-! ## The end of a break -/

/-- The state in which a break's report finds the driver: released, the receiver aligned. -/
def State.broken (s : State) : State :=
  { s with li := { s.li with tx := .released, rx := .heldLow 16 [] false } }

theorem breakDoneReport_waiting (hclock : s.pins.clock = true) (h : s.li.breakWaiting = true) :
    breakDoneReport s =
      { s with
        li := { s.li with
          tx := .breakLow 0, breakWaiting := false, rx := .heldLow 0 [] false, oldRate := none,
          monitor := .active, quietTimer := 0 } } := by
  unfold breakDoneReport
  rw [if_pos h, hclock]
  rfl

theorem breakDoneReport_last (h : s.li.breakWaiting = false) :
    breakDoneReport s = s.broken.leaveBreaking.settle := if_neg (by simp [h])

theorem leaveBreaking_stops (hstate : s.le.state = .breaking)
    (h : s.le.stopMark = true ∨ s.le.breakFromStopped = true) :
    s.leaveBreaking = s.enterStopped := by
  simp [State.leaveBreaking, hstate, h]

theorem leaveBreaking_idles (hstate : s.le.state = .breaking) (hmark : s.le.stopMark = false)
    (hfrom : s.le.breakFromStopped = false) :
    s.leaveBreaking = { s with le := { s.le with state := .idle } } := by
  simp [State.leaveBreaking, hstate, hmark, hfrom]

theorem leaveBreaking_else (hstate : s.le.state ≠ .breaking) : s.leaveBreaking = s := if_neg hstate

theorem breakDoneEvent_none (h : ∀ n, s.li.tx ≠ .breakHigh n) : breakDoneEvent s = s := by
  cases htx : s.li.tx with
  | breakHigh n => exact absurd htx (h n)
  | released | turnaround _ | sending _ _ _ | releaseBit _ | breakLow _ =>
    simp only [breakDoneEvent, htx]

/-! ## BREAK_REPORT and HELD_LOW_END -/

/-- The state after a break is seen: the count disarmed, BREAK_SEEN raised. -/
def State.breakSeen (s : State) : State :=
  { s with
    li := { s.li with rx := .heldLow 345 [] false }
    eu := { s.eu with latches := s.eu.latches ||| 0x080#12 } }

theorem breakReport_ends (hstate : s.le.state = .awaiting ∨ s.le.state = .receiving)
    (hcurrent : s.le.current = some x) :
    breakReport s = (attemptEnds x (.corrupt .framing) s.breakSeen).settle := by
  have hfinish : finishAttempt (.corrupt .framing) s.breakSeen =
      attemptEnds x (.corrupt .framing) s.breakSeen := finishAttempt_current _ hcurrent
  rw [← hfinish]
  rcases hstate with h | h <;>
  · simp only [breakReport, h]
    rfl

theorem breakReport_else (hawaiting : s.le.state ≠ .awaiting) (hreceiving : s.le.state ≠ .receiving) :
    breakReport s = s.breakSeen := by
  cases h : s.le.state with
  | awaiting => exact absurd h hawaiting
  | receiving => exact absurd h hreceiving
  | stopped | idle | holding | turnaround | sending | breaking =>
    simp only [breakReport, h]
    rfl

theorem heldLowEvent_ends {n : Nat} {votes : List Bool} {armed : Bool}
    (h : s.li.pastLastStopBit.rx = .heldLow n votes armed)
    (hbreaking : s.li.pastLastStopBit.tx.breaking = false) :
    heldLowEvent s =
      { s with li := { s.li.pastLastStopBit with lastSample := true, rx := .hunting none } } := by
  simp only [heldLowEvent, h, hbreaking, Bool.false_eq_true, if_false]
  rfl

theorem heldLowEvent_none
    (h : (∀ n votes armed, s.li.pastLastStopBit.rx ≠ .heldLow n votes armed) ∨
      s.li.pastLastStopBit.tx.breaking = true) : heldLowEvent s = s := by
  cases hrx : s.li.pastLastStopBit.rx with
  | heldLow n votes armed =>
    have hbreaking := h.resolve_left fun hne => hne n votes armed hrx
    simp only [heldLowEvent, hrx, hbreaking, if_true]
  | hunting _ | assembling _ _ _ | echoing _ => simp only [heldLowEvent, hrx]

end
end Sys2Proof.Machine

namespace Sys2Proof.Proofs
open Sys2Proof.Machine

/-- Settles O43: the echo of the character in progress, or of the one supplied after it, by the engine's
state and whether it agrees. -/
theorem echoRow : Obligations.EchoRow := by
  unfold Obligations.EchoRow
  intro s data mark noise framing hruns row
  let e : LineChar := { data := data, mark := mark, noise := noise, framing := framing }
  refine ⟨fun c t hdue => ?_, fun h => timed_next hruns (echoEvent_none h)⟩
  have hrow {u : State} (hu : echoTaken c e t = u) : row = .next u.settle := by
    rcases hdue with ⟨n, htx, rfl⟩ | ⟨c0, n, f, htx, hsupplied, rfl⟩
    · exact timed_next hruns ((echoEvent_first e htx).trans (congrArg State.settle hu))
    · exact timed_next hruns ((echoEvent_next htx hsupplied).trans (congrArg State.settle hu))
  have hle : t.le = s.le := by
    rcases hdue with ⟨n, htx, rfl⟩ | ⟨c0, n, f, htx, hsupplied, rfl⟩ <;> rfl
  rw [← hle]
  refine ⟨fun hstate => hrow (echoTaken_else hstate), fun x hstate hcurrent =>
    ⟨fun hnot => hrow (echoTaken_collides hstate hcurrent ?_), fun hagrees hbyte => hrow ?_,
      fun hagrees hbyte => ⟨fun hkind => hrow ?_, fun hbcast htimesync => hrow ?_⟩⟩⟩
  · rw [← Bool.not_eq_true, agrees_iff]
    exact hnot
  all_goals rw [echoTaken_agrees hstate hcurrent (agrees_iff.mpr hagrees)]
  · exact echoAgreed_continues hbyte
  · rw [echoAgreed_last hbyte, if_pos ((broadcast_iff x.kind).mpr hkind)]
    exact finishAttempt_current _ hcurrent
  · rw [echoAgreed_last hbyte, if_neg]
    rw [broadcast_iff]
    exact not_or.mpr ⟨hbcast, htimesync⟩

/-- Settles O44: the start of an attempt, then the frame character by character. -/
theorem commandFrames : Obligations.CommandFrames := by
  unfold Obligations.CommandFrames
  refine ⟨fun s x => ?_, fun s x => ⟨rfl, rfl, rfl, fun k => frameByte_payload, frameByte_checkLow,
    frameByte_checkHigh, frameByte_after,
    fun tag h hkind => ⟨sendLength_timesync h hkind, sendByte_timesync h hkind⟩,
    fun tag h hkind => ⟨sendLength_request h hkind, fun k b => sendByte_request h hkind⟩,
    sendLength_empty, readSlot_frame, fun v => supplyNext_eq⟩⟩
  intro address toggle first begun
  have hbegun : s.beginAttempt x = begun := by
    show ({ Attempt.blank with
      address := address
      control := controlByte x.kind toggle
      toggle := toggle
      sent := 1
      sendCheck := checkFeed 0xFFFF#16 address } : Attempt) = begun
    rw [controlByte_eq]
  refine ⟨fun h => ?_, fun h hclock => ?_, rfl, rfl⟩
  · rw [startAttempt_waits x s h, hbegun]
    rfl
  · rw [startAttempt_begins x s h hclock, hbegun, hclock]
    rfl

/-- Settles O45, by the transmitter, the receiver and the engine's state. -/
theorem breakRows : Obligations.BreakRows := by
  unfold Obligations.BreakRows
  refine ⟨fun s hruns => ?_, fun s hruns => ?_⟩
  · have hdone {n : Nat} {u : State} (htx : s.li.tx = .breakHigh n) (h : s.li.breakWaiting = false)
        (hu : s.broken.leaveBreaking = u) : exec .breakDoneReport s = .next u.settle :=
      timed_next hruns ((breakDoneEvent_due htx).trans
        ((breakDoneReport_last h).trans (congrArg State.settle hu)))
    exact ⟨fun n htx h => timed_next hruns
        ((breakDoneEvent_due htx).trans (breakDoneReport_waiting (clock_of_timeRuns hruns) h)),
      fun n htx h hstate hmark => hdone htx h (leaveBreaking_stops hstate hmark),
      fun n htx h hstate hmark hfrom => hdone htx h (leaveBreaking_idles hstate hmark hfrom),
      fun n htx h hstate => hdone htx h (leaveBreaking_else hstate),
      fun h => timed_next hruns (breakDoneEvent_none h)⟩
  · exact ⟨fun n v x hrx hstate hcurrent => timed_next hruns
        ((breakEvent_armed hrx).trans (breakReport_ends hstate hcurrent)),
      fun n v hrx hawaiting hreceiving => timed_next hruns
        ((breakEvent_armed hrx).trans (breakReport_else hawaiting hreceiving)),
      fun h => timed_next hruns (breakEvent_none h),
      fun n v armed hrx hbreaking => timed_next hruns (heldLowEvent_ends hrx hbreaking),
      fun h => timed_next hruns (heldLowEvent_none h)⟩

end Sys2Proof.Proofs
